-- ==== Sys2Proof/Word.lean ====
section
/-! DEFINITION. The words of the part's interfaces: the character of a serial line and the multi-byte
fields that travel most significant byte first (spec 12_formats.md, R190). Amounts of money, counts,
indices and clock fields are natural numbers; only what travels on a line as bits is a bit vector. -/

namespace Sys2Proof

/-- One character of a serial line (R1: eight data bits). -/
abbrev Byte := BitVec 8

/-- A two-byte field (R190, Numbers: a range within 0–65,535). -/
abbrev Half := BitVec 16

/-- A three-byte field (R190, Numbers: a range within 0–16,777,215). -/
abbrev Triple := BitVec 24

/-- A four-byte field (R190, Numbers). -/
abbrev Word := BitVec 32

end Sys2Proof
end

