-- ==== Sys2Proof/Config.lean ====
section
/-! DEFINITION. What is fixed for the part: the capacities and lengths that the spec's rules name, and
the one value the spec leaves open, as an uninterpreted constant. -/

namespace Sys2Proof.Config

/-- Fixed session timer lengths, in seconds (R97, table of timers). -/
def cardWriteSeconds : Nat := 8
/-- Payout timer, in seconds (R97). -/
def payoutSeconds : Nat := 10
/-- One step of the rate hunt, in milliseconds (R176). -/
def huntStepMs : Nat := 250
/-- Misses in a row that end PRESENT (R7). -/
def missLimit : Nat := 3
/-- STATUS frames that must agree before a filtered value changes (R17). -/
def filterRun : Nat := 3
/-- Escrow places of a kiosk (R27, R38). -/
def escrowPlaces : Nat := 4
/-- Greatest count of returns owed (R29, R31). -/
def returnsMax : Nat := 8
/-- The reject run that blocks the inlet (R28). -/
def rejectRunMax : Nat := 8
/-- Saturation of the cashbox count, of the sales count and of a serial (R48, R165, R75). -/
def halfMax : Nat := 65535
/-- Saturation of a retained total (R165). -/
def wordMax : Nat := 4294967295
/-- Greatest accepted count of one coin type (R85). -/
def acceptedMax : Nat := 255
/-- Places of the stop-list (R122). -/
def stopListMax : Nat := 4096
/-- Places of the offline card table (R131). -/
def offlineTableMax : Nat := 64
/-- Greatest float FLOAT-SET may name (R134). -/
def floatMax : Nat := 500000
/-- Places of the journal, records and reservations together (R156). -/
def journalMax : Nat := 256
/-- The occupancy that sets the journal's high flag (R163). -/
def journalHigh : Nat := 192
/-- Print jobs of one kiosk (R146). -/
def jobsMax : Nat := 3
/-- Lines of one print job (R145). -/
def linesMax : Nat := 48
/-- Entries returned by one AUTH-FETCH (R125). -/
def fetchMax : Nat := 4
/-- Greatest payload of a frame (R2, Table 12-1). -/
def payloadMax : Nat := 240
/-- The last service day of the part's range (R168). -/
def lastServiceDay : Nat := 36524

/-- The toggle T of a POLL frame that carries RESYNC, for the kiosk and its last toggle. R9 says that the
frame is a POLL with RESYNC and gives it no T; R10 and R15 give T for the other POLL frames only.
DESIGN CHOICE (log entry 3), safe: no body, so nothing can be proved of the bit. -/
opaque resyncToggle (kiosk : Fin 16) (lastToggle : Bool) : Bool

end Sys2Proof.Config
end

