-- ==== Sys2Proof/Syntax.lean ====
section
/-! DEFINITION. The commands of the block: one constructor of `Instr` for each row of
spec/opcode_table.json, with the operands its rule gives it. The replies of a kiosk carry their fields as
Table 12-4 reads them; the requests of the depot line carry the raw fields of Tables 12-6 and 12-7, since
the part judges their ranges itself. MALFORMED_REPLY and BAD_KIND carry the raw kind and payload. -/

namespace Sys2Proof

/-- Kiosks 0–15 (spec 00_scope.md, Conventions). -/
abbrev Kiosk := Fin 16
/-- Coin types: indices into the coin table (R21). -/
abbrev CoinType := Fin 16
/-- Tubes 0–5 of a kiosk (section 3.2). -/
abbrev TubeNo := Fin 6

/-- The two kiosk loops (chapter 1). -/
inductive LoopId | a | b
  deriving DecidableEq, Repr

/-- Why a receiver abandons a frame (R2). -/
inductive AbandonCause | gap | stopBit | length | parity
  deriving DecidableEq, Repr

/-- DOOR input (Table 1-4: OPEN, CLOSED). -/
inductive DoorIn | opened | closed
  deriving DecidableEq, Repr
/-- CASHBOX input (Table 1-4). -/
inductive CashboxIn | ok | full
  deriving DecidableEq, Repr
/-- PAPER input (Table 1-4). -/
inductive PaperIn | ok | low | out
  deriving DecidableEq, Repr
/-- SERVICE input (Table 1-4). -/
inductive ServiceIn | on | off
  deriving DecidableEq, Repr

/-- Rider classes (Table 4-1). -/
inductive RiderClass | adult | child | senior | concession
  deriving DecidableEq, Repr
/-- The carrier a selection asks for (Table 5-1). -/
inductive Carrier | paper | card
  deriving DecidableEq, Repr

/-- A select record of a KEY frame (R78, Table 12-4). -/
inductive SelectItem
  | product (code : Nat)
  | topup (amount : Nat)
  | zones (count : Nat)
  | riderClass (cls : RiderClass)
  | quantity (count : Nat)
  | carrier (carrier : Carrier)
  deriving DecidableEq, Repr

/-- A destination or route of a coin (R27, R32): ESCROW, TUBE k, CASHBOX, RETURN. -/
inductive Dest
  | escrow
  | tube (tube : TubeNo)
  | cashbox
  | ret
  deriving DecidableEq, Repr

/-- A pass in a card's pass slot (Table 7-1). -/
structure PassSlot where
  product : Nat
  zones : Nat
  validFrom : Nat
  validUntil : Nat
  deriving DecidableEq, Repr

/-- A card image (Table 7-1). -/
structure CardImage where
  number : Nat
  cls : RiderClass
  balance : Nat
  counter : Nat
  pass : Option PassSlot
  deriving DecidableEq, Repr

/-- The result of a card write (R136). -/
inductive CardOutcome | done | failed | unknown
  deriving DecidableEq, Repr

/-- The seven tables of a tariff bank (Table 4-1). -/
inductive BankedTable | header | product | fare | band | dayplan | cls | holiday
  deriving DecidableEq, Repr

/-- A date-time field (R190): year minus 2000, month, day, hour, minute, second. -/
structure DateTimeField where
  year : Byte
  month : Byte
  day : Byte
  hour : Byte
  minute : Byte
  second : Byte
  deriving DecidableEq, Repr

/-- An effective minute field (R190): the first five bytes of a date-time. -/
structure MinuteField where
  year : Byte
  month : Byte
  day : Byte
  hour : Byte
  minute : Byte
  deriving DecidableEq, Repr

/-- CALIB unit (Table 12-7): offset and gain code of m1, m2, m3. -/
structure CalibUnit where
  offset1 : Half
  gain1 : Byte
  offset2 : Half
  gain2 : Byte
  offset3 : Half
  gain3 : Byte
  deriving DecidableEq, Repr

/-- COIN unit (Table 12-7). -/
structure CoinUnit where
  valid : Byte
  value : Half
  low1 : Byte
  high1 : Byte
  low2 : Byte
  high2 : Byte
  low3 : Byte
  high3 : Byte
  use : Byte
  deriving DecidableEq, Repr

/-- TUBE unit (Table 12-7). -/
structure TubeUnit where
  coinType : Byte
  capacity : Byte
  count : Byte
  lowMark : Byte
  deriving DecidableEq, Repr

/-- TEMPLATE unit (Table 12-7): kind, condition and a body of 32 bytes. -/
structure TemplateUnit where
  kind : Byte
  condition : Byte
  body : List Byte
  deriving DecidableEq, Repr

/-- HEADER unit (Table 12-7); eight denominations. -/
structure HeaderUnit where
  set : Byte
  step : Byte
  maxSale : Triple
  fee : Half
  topupMin : Half
  topupMax : Half
  cardMax : Triple
  offlineLimit : Half
  denominations : List Half
  deriving DecidableEq, Repr

/-- PRODUCT unit (Table 12-7); a name field of 20 bytes. -/
structure ProductUnit where
  valid : Byte
  code : Half
  name : List Byte
  kind : Byte
  days : Byte
  carriers : Byte
  fareRow : Byte
  bandGroup : Byte
  discountGroup : Byte
  classes : Byte
  template : Byte
  maxQuantity : Byte
  deriving DecidableEq, Repr

/-- One slot of a DAYPLAN unit (Table 12-7): start and band class. -/
structure BandSlot where
  start : Half
  cls : Byte
  deriving DecidableEq, Repr

/-- DAYPLAN unit (Table 12-7): band count and six slots. -/
structure DayplanUnit where
  count : Byte
  slots : List BandSlot
  deriving DecidableEq, Repr

/-- HOLIDAY unit (Table 12-7). -/
structure HolidayUnit where
  valid : Byte
  day : Half
  deriving DecidableEq, Repr

/-- What a warm restart meets: what the five address pins show (R175), and how many seconds elapse from its beginning to
its end (R167, R173; log entry 34). -/
structure WarmStart where
  pins : Fin 32
  seconds : Nat
  deriving DecidableEq, Repr

/-- The commands: one constructor per row of spec/opcode_table.json, in the table's order. `loop` is the
loop whose exchange the frame ends (R3: a reply counts for the kiosk that the exchange polled), `a` is the
toggle A of the reply's control byte (R4), `pins` is what the five address pins show at the start (R175). -/
inductive Instr
  -- starts (R188)
  | coldStart (pins : Fin 32)
  | resetPin (start : WarmStart)
  | commandRestart (start : WarmStart)
  -- exchanges that end without a good reply (R2, R3)
  | frameAbandoned (loop : LoopId) (cause : AbandonCause)
  | missNoReply (loop : LoopId)
  | missBadCheck (loop : LoopId)
  | missWrongAddress (loop : LoopId)
  -- good replies (R4, Table 12-4)
  | nil (loop : LoopId) (a : Bool)
  | malformedReply (loop : LoopId) (a : Bool) (kind : Byte) (payload : List Byte)
  | status (loop : LoopId) (a : Bool) (door : DoorIn) (cashbox : CashboxIn) (paper : PaperIn) (service : ServiceIn)
  | keySelect (loop : LoopId) (a : Bool) (item : SelectItem)
  | keyConfirm (loop : LoopId) (a : Bool)
  | keyCancel (loop : LoopId) (a : Bool)
  | keyReceiptYes (loop : LoopId) (a : Bool)
  | keyReceiptNo (loop : LoopId) (a : Bool)
  | coin (loop : LoopId) (a : Bool) (r1 r2 r3 : Nat)
  | landed (loop : LoopId) (a : Bool) (dest : Dest)
  | cardImage (loop : LoopId) (a : Bool) (image : CardImage)
  | cardRemoval (loop : LoopId) (a : Bool)
  | cardResult (loop : LoopId) (a : Bool) (result : CardOutcome) (card counter : Nat)
  | payReport (loop : LoopId) (a : Bool) (counts : Vector Nat 6)
  | printRdy (loop : LoopId) (a : Bool) (slots : Nat)
  | fill (loop : LoopId) (a : Bool) (counts : Vector Nat 6)
  -- elapsed timers (R96, R97, R176, R177) and the clock's second (R167)
  | inactivityTimerExpiry (kiosk : Kiosk)
  | authorisationTimerExpiry (kiosk : Kiosk)
  | cardWriteTimerExpiry (kiosk : Kiosk)
  | payoutTimerExpiry (kiosk : Kiosk)
  | supervisionTimerExpiry
  | holdTimerExpiry
  | huntStepExpiry
  | clockSecond
  -- depot frames that earn no reply (R175, R176, R177), and the envelope's refusals (R179)
  | depotBadFrame
  | depotFrameOtherStation
  | depotFrameNoReply
  | badKind (kind : Byte) (payload : List Byte)
  -- depot requests (Table 11-3)
  | statusRead
  | clockSet (dateTime : DateTimeField)
  | tableWriteLoop (index rate edge : Byte)
  | tableWriteKiosk (index configured : Byte)
  | tableWriteCalib (index : Byte) (unit : CalibUnit)
  | tableWriteCoin (index : Byte) (unit : CoinUnit)
  | tableWriteTube (index tube : Byte) (unit : TubeUnit)
  | tableWriteSettings (index : Byte) (value : Half)
  | tableWriteTemplate (index place : Byte) (unit : TemplateUnit)
  | tableWriteHeader (bank : Byte) (unit : HeaderUnit)
  | tableWriteProduct (bank index : Byte) (unit : ProductUnit)
  | tableWriteFare (bank index : Byte) (cells : List Half)
  | tableWriteBand (bank index : Byte) (factors : List Half)
  | tableWriteDayplan (bank index : Byte) (unit : DayplanUnit)
  | tableWriteClass (bank index : Byte) (percents : List Byte)
  | tableWriteHoliday (bank index : Byte) (unit : HolidayUnit)
  | tableReadLoop (index : Byte)
  | tableReadKiosk (index : Byte)
  | tableReadCalib (index : Byte)
  | tableReadCoin (index : Byte)
  | tableReadTube (index : Byte)
  | tableReadSettings
  | tableReadTemplate (index place : Byte)
  | tableReadBanked (table : BankedTable) (bank index : Byte)
  | bankSwitch (bank : Byte) (minute : MinuteField)
  | switchCancel
  | stoplistAdd (number : Word)
  | stoplistRemove (number : Word)
  | stoplistClear
  | journalRead
  | journalPop
  | authFetch
  | authAnswer (kiosk : Byte) (serial : Half) (attempt decision : Byte)
  | eventsRead
  | eventsClear (kinds : Word)
  | eventsMask (kinds : Word)
  | kioskControlInService (kiosk : Byte)
  | kioskControlOutOfService (kiosk : Byte)
  | kioskControlBlock (kiosk : Byte)
  | kioskControlRelease (kiosk : Byte)
  | kioskControlModeLatched (kiosk : Byte)
  | kioskControlModeFollowing (kiosk : Byte)
  | kioskRead (kiosk : Byte)
  | floatSet (value : Triple)
  | modeSetLoading
  | modeSetSelling
  | modeSetSuspended
  | restart
  deriving DecidableEq, Repr

end Sys2Proof
end

