-- ==== Sys2Proof/WellFormed.lean ====
section
/-! DEFINITION. The static checks of a command's operands: the ranges that Table 12-4 and R120 give the
fields of a kiosk's reply, and the fixed lengths of the lists of Table 12-7. -/

namespace Sys2Proof

/-- A select record whose value Table 12-4 does not call malformed (KEY row). -/
def SelectItem.wellFormed : SelectItem → Bool
  | .product code => decide (1 ≤ code ∧ code ≤ 9999)
  | .topup amount => decide (amount ≤ 50000)
  | .zones count => decide (count ≤ 65535)
  | .riderClass _ => true
  | .quantity count => decide (count ≤ 65535)
  | .carrier _ => true

/-- A pass slot in the ranges of Table 12-4 (CARD row) whose valid-until is not below its valid-from (R120). -/
def PassSlot.wellFormed (p : PassSlot) : Bool :=
  decide (1 ≤ p.product ∧ p.product ≤ 9999 ∧ 1 ≤ p.zones ∧ p.zones ≤ 8 ∧
    p.validFrom ≤ p.validUntil ∧ p.validUntil ≤ Config.lastServiceDay)

/-- A card image in the ranges of Table 7-1, not malformed by R120. -/
def CardImage.wellFormed (c : CardImage) : Bool :=
  decide (1 ≤ c.number ∧ c.number ≤ Config.wordMax ∧ c.balance ≤ 99999 ∧ c.counter ≤ Config.halfMax) &&
    match c.pass with
    | none => true
    | some p => p.wellFormed

/-- Six counts of a PAYREPORT or a FILL, none above 250 (Table 12-4). -/
def countsWellFormed (counts : Vector Nat 6) : Bool :=
  counts.toList.all (fun n => decide (n ≤ 250))

/-- The static well-formedness of a command. -/
def Instr.wellFormed : Instr → Bool
  | .malformedReply _ _ _ payload => decide (payload.length ≤ Config.payloadMax)
  | .keySelect _ _ item => item.wellFormed
  | .coin _ _ r1 r2 r3 => decide (r1 ≤ 1023 ∧ r2 ≤ 1023 ∧ r3 ≤ 1023)
  | .cardImage _ _ image => image.wellFormed
  | .cardResult _ _ _ card counter => decide (card ≤ Config.wordMax ∧ counter ≤ Config.halfMax)
  | .payReport _ _ counts => countsWellFormed counts
  | .printRdy _ _ slots => decide (1 ≤ slots ∧ slots ≤ 8)
  | .fill _ _ counts => countsWellFormed counts
  | .badKind kind payload => decide (kind.toNat < 128 ∧ payload.length ≤ Config.payloadMax)
  | .tableWriteTemplate _ _ u => decide (u.body.length = 32)
  | .tableWriteHeader _ u => decide (u.denominations.length = 8)
  | .tableWriteProduct _ _ u => decide (u.name.length = 20)
  | .tableWriteFare _ _ cells => decide (cells.length = 8)
  | .tableWriteBand _ _ factors => decide (factors.length = 4)
  | .tableWriteDayplan _ _ u => decide (u.slots.length = 6)
  | .tableWriteClass _ _ percents => decide (percents.length = 4)
  | _ => true

end Sys2Proof
end

