-- ==== Sys2Proof/Decode.lean ====
section
/-! DEFINITION. From the wire to commands and back. The table of commands gives no bits, so
`decodeTableWord` reads none; what the spec does give is the frame (R2, R189, Table 12-1) and the layouts
of the payloads (Tables 12-4, 12-6 and 12-7), and this file reads a received frame into the command it
stands for, and writes a command's payload. It also holds the byte order and the check of R189 and R190
that every frame the part sends uses. -/

namespace Sys2Proof

/-- The command that a word spells by the bits of spec/opcode_table.json: the table gives no row any bits. -/
def decodeTableWord (_nbits _w : Nat) : Option Instr := none

/-! ### Bytes (R190) -/

/-- A number in `w` bytes, most significant byte first (R190, Numbers). -/
def beBytes : Nat → Nat → List Byte
  | 0, _ => []
  | w + 1, n => BitVec.ofNat 8 (n / 256 ^ w) :: beBytes w n

/-- The byte at an offset of a payload; 0 beyond its end. -/
def byteAt (p : List Byte) (i : Nat) : Byte := p.getD i 0
/-- The two bytes at an offset, most significant first. -/
def halfAt (p : List Byte) (i : Nat) : Half := byteAt p i ++ byteAt p (i + 1)
/-- The three bytes at an offset, most significant first. -/
def tripleAt (p : List Byte) (i : Nat) : Triple := halfAt p i ++ byteAt p (i + 2)
/-- The four bytes at an offset, most significant first. -/
def wordAt (p : List Byte) (i : Nat) : Word := tripleAt p i ++ byteAt p (i + 3)

/-- The bytes of a two-byte field. -/
def halfBytes (x : Half) : List Byte := beBytes 2 x.toNat
/-- The bytes of a three-byte field. -/
def tripleBytes (x : Triple) : List Byte := beBytes 3 x.toNat
/-- The bytes of a four-byte field. -/
def wordBytes (x : Word) : List Byte := beBytes 4 x.toNat

/-! ### The check and the frame (R189, Table 12-1) -/

/-- One bit of the check register: shift left, and the polynomial 0x1021 when the top bit falls out. -/
def crcBit (r : Half) : Half :=
  if r.msb then (r <<< 1) ^^^ 0x1021#16 else r <<< 1

/-- One byte enters the check register, most significant bit first (R189). -/
def crcByte (r : Half) (b : Byte) : Half :=
  crcBit (crcBit (crcBit (crcBit (crcBit (crcBit (crcBit (crcBit (r ^^^ (b.setWidth 16 <<< 8)))))))))

/-- The check of R189: initial value 0xFFFF, no final inversion. -/
def crc16 (bytes : List Byte) : Half := bytes.foldl crcByte 0xFFFF#16

/-- A frame's fields (Table 12-1). -/
structure Frame where
  addr : Byte
  kind : Byte
  control : Byte
  payload : List Byte
  deriving DecidableEq, Repr

/-- The bytes a check covers: address through last payload byte (R189). -/
def Frame.covered (f : Frame) : List Byte :=
  f.addr :: f.kind :: f.control :: BitVec.ofNat 8 f.payload.length :: f.payload

/-- The frame as sent: start 0xA5, the covered bytes, the check high byte first (Table 12-1, R189). -/
def Frame.bytes (f : Frame) : List Byte :=
  0xA5#8 :: (f.covered ++ halfBytes (crc16 f.covered))

/-! ### The receiver (R2) -/

/-- What a receiver sees: a character with its parity and stop bit, or an idle gap longer than two
character times. -/
inductive RxEvent
  | char (byte : Byte) (parityOk stopOk : Bool)
  | idle
  deriving DecidableEq, Repr

/-- The levels of one character on a line, first bit first (R1, R175): a start bit 0, eight data bits least
significant first, the even parity bit and a stop bit 1. -/
def charBits (b : Byte) : List Bool :=
  let data := (List.range 8).map b.getLsbD
  false :: data ++ [data.foldl xor false, true]

/-- The character that eleven sampled levels make (R1, R2): none without a start bit. -/
def charOf (bits : List Bool) : Option RxEvent :=
  match bits with
  | [false, b0, b1, b2, b3, b4, b5, b6, b7, parity, stop] =>
    let data := [b0, b1, b2, b3, b4, b5, b6, b7]
    some (.char (BitVec.ofBoolListLE data) (parity == data.foldl xor false) stop)
  | _ => none

/-- How a frame ends at the receiver (R2). -/
inductive RxResult
  | good (frame : Frame)
  | badCheck
  | abandoned (cause : AbandonCause)
  deriving DecidableEq, Repr

/-- The receiver: looking for a start character, or inside a frame with the characters after it. -/
inductive RxState
  | hunting
  | inside (got : List Byte)
  deriving DecidableEq, Repr

/-- The frame that complete characters after the start character make, judged by its check (R2, R189). -/
def judgeFrame (got : List Byte) : RxResult :=
  let n := got.length - 2
  let body := got.take n
  if got.drop n = halfBytes (crc16 body) then
    .good { addr := byteAt got 0, kind := byteAt got 1, control := byteAt got 2, payload := body.drop 4 }
  else .badCheck

/-- One event at the receiver (R2). A start character counts only if its own parity and stop bit are
right (DEDUCED, log entry 4). The gap rule does not apply before the start character. A character with two faults is
judged for its stop bit, then its parity, then its length (DESIGN CHOICE, log entry 38). -/
def rxStep (st : RxState) (e : RxEvent) : RxState × Option RxResult :=
  match st, e with
  | .hunting, .idle => (.hunting, none)
  | .hunting, .char b p s => if b = 0xA5#8 ∧ p = true ∧ s = true then (.inside [], none) else (.hunting, none)
  | .inside _, .idle => (.hunting, some (.abandoned .gap))
  | .inside got, .char b p s =>
    if s = false then (.hunting, some (.abandoned .stopBit))
    else if p = false then (.hunting, some (.abandoned .parity))
    else if got.length = 3 ∧ b.toNat > Config.payloadMax then (.hunting, some (.abandoned .length))
    else
      let got' := got ++ [b]
      if 4 ≤ got'.length ∧ got'.length = (byteAt got' 3).toNat + 6 then (.hunting, some (judgeFrame got'))
      else (.inside got', none)

/-- The first frame that a run of events completes or abandons: it ends the exchange (R3). -/
def receive : RxState → List RxEvent → Option RxResult
  | _, [] => none
  | st, e :: es =>
    match rxStep st e with
    | (_, some r) => some r
    | (st', none) => receive st' es

/-! ### Replies of a kiosk (Table 12-4) -/

/-- Enumerated fields of Table 12-4, by the position of the value in its list (R190). -/
def doorOf (b : Byte) : Option DoorIn :=
  if b = 0 then some .opened else if b = 1 then some .closed else none
def cashboxOf (b : Byte) : Option CashboxIn :=
  if b = 0 then some .ok else if b = 1 then some .full else none
def paperOf (b : Byte) : Option PaperIn :=
  if b = 0 then some .ok else if b = 1 then some .low else if b = 2 then some .out else none
def serviceOf (b : Byte) : Option ServiceIn :=
  if b = 0 then some .on else if b = 1 then some .off else none
def classOf (n : Nat) : Option RiderClass :=
  match n with
  | 0 => some .adult | 1 => some .child | 2 => some .senior | 3 => some .concession | _ => none
def carrierOf (n : Nat) : Option Carrier :=
  match n with
  | 0 => some .paper | 1 => some .card | _ => none
def cardOutcomeOf (b : Byte) : Option CardOutcome :=
  if b = 0 then some .done else if b = 1 then some .failed else if b = 2 then some .unknown else none

/-- The codes of those fields (R190, Enumerations). -/
def DoorIn.code : DoorIn → Nat
  | .opened => 0 | .closed => 1
def CashboxIn.code : CashboxIn → Nat
  | .ok => 0 | .full => 1
def PaperIn.code : PaperIn → Nat
  | .ok => 0 | .low => 1 | .out => 2
def ServiceIn.code : ServiceIn → Nat
  | .on => 0 | .off => 1
def RiderClass.code : RiderClass → Nat
  | .adult => 0 | .child => 1 | .senior => 2 | .concession => 3
def Carrier.code : Carrier → Nat
  | .paper => 0 | .card => 1
def CardOutcome.code : CardOutcome → Nat
  | .done => 0 | .failed => 1 | .unknown => 2

/-- A select record from its item byte and two-byte value (Table 12-4, KEY). -/
def selectOf (item : Byte) (value : Nat) : Option SelectItem :=
  match item.toNat with
  | 0 => some (.product value)
  | 1 => some (.topup value)
  | 2 => some (.zones value)
  | 3 => (classOf value).map .riderClass
  | 4 => some (.quantity value)
  | 5 => (carrierOf value).map .carrier
  | _ => none

/-- The destination of a LANDED payload; the tube byte counts for TUBE only (Table 12-4). -/
def destOf (d t : Byte) : Option Dest :=
  match d.toNat with
  | 0 => some .escrow
  | 1 => if h : t.toNat < 6 then some (.tube ⟨t.toNat, h⟩) else none
  | 2 => some .cashbox
  | 3 => some .ret
  | _ => none

/-- The card image of a CARD payload of 12 or 19 bytes (Table 12-4). -/
def imageOf (p : List Byte) : Option CardImage :=
  match classOf (byteAt p 5).toNat with
  | none => none
  | some cls =>
    let image (pass : Option PassSlot) : CardImage :=
      { number := (wordAt p 1).toNat, cls := cls, balance := (tripleAt p 6).toNat,
        counter := (halfAt p 9).toNat, pass := pass }
    if byteAt p 11 = 0 ∧ p.length = 12 then some (image none)
    else if byteAt p 11 = 1 ∧ p.length = 19 then
      some (image (some { product := (halfAt p 12).toNat, zones := (byteAt p 14).toNat,
                          validFrom := (halfAt p 15).toNat, validUntil := (halfAt p 17).toNat }))
    else none

/-- Six one-byte counts (PAYREPORT, FILL). -/
def sixCounts (p : List Byte) : Vector Nat 6 :=
  #v[(byteAt p 0).toNat, (byteAt p 1).toNat, (byteAt p 2).toNat,
     (byteAt p 3).toNat, (byteAt p 4).toNat, (byteAt p 5).toNat]

/-- The command that a kind and a payload spell by their layout, before the ranges are judged. -/
def layoutReply (l : LoopId) (a : Bool) (kind : Byte) (p : List Byte) : Option Instr :=
  match kind.toNat with
  | 0x20 => if p.length = 0 then some (.nil l a) else none
  | 0x21 =>
    if p.length = 4 then
      match doorOf (byteAt p 0), cashboxOf (byteAt p 1), paperOf (byteAt p 2), serviceOf (byteAt p 3) with
      | some d, some c, some pa, some s => some (.status l a d c pa s)
      | _, _, _, _ => none
    else none
  | 0x22 =>
    match (byteAt p 0).toNat, p.length with
    | 0, 4 => (selectOf (byteAt p 1) (halfAt p 2).toNat).map (.keySelect l a)
    | 1, 1 => some (.keyConfirm l a)
    | 2, 1 => some (.keyCancel l a)
    | 3, 1 => some (.keyReceiptYes l a)
    | 4, 1 => some (.keyReceiptNo l a)
    | _, _ => none
  | 0x23 =>
    if p.length = 6 then some (.coin l a (halfAt p 0).toNat (halfAt p 2).toNat (halfAt p 4).toNat) else none
  | 0x24 => if p.length = 2 then (destOf (byteAt p 0) (byteAt p 1)).map (.landed l a) else none
  | 0x25 =>
    match (byteAt p 0).toNat with
    | 0 => if p.length = 1 then some (.cardRemoval l a) else none
    | 1 => (imageOf p).map (.cardImage l a)
    | _ => none
  | 0x26 =>
    if p.length = 7 then
      (cardOutcomeOf (byteAt p 0)).map (fun r => .cardResult l a r (wordAt p 1).toNat (halfAt p 5).toNat)
    else none
  | 0x27 => if p.length = 6 then some (.payReport l a (sixCounts p)) else none
  | 0x28 => if p.length = 1 then some (.printRdy l a (byteAt p 0).toNat) else none
  | 0x29 => if p.length = 6 then some (.fill l a (sixCounts p)) else none
  | _ => none

/-- The well-formed reply that a kind and a payload spell (R191): none where Table 12-4 calls the payload
malformed or the kind is outside 0x20–0x29. -/
def parseReply (l : LoopId) (a : Bool) (kind : Byte) (p : List Byte) : Option Instr :=
  match layoutReply l a kind p with
  | some i => if i.wellFormed then some i else none
  | none => none

/-- The command of a good reply: the row of its kind, or MALFORMED_REPLY (R191). -/
def decodeReply (l : LoopId) (a : Bool) (kind : Byte) (p : List Byte) : Instr :=
  (parseReply l a kind p).getD (.malformedReply l a kind p)

/-- A (bit 0) of a kiosk's control byte, whatever its other bits hold (R189). -/
def toggleOf (control : Byte) : Bool := control.getLsbD 0

/-- The command of a loop's receiver result in an exchange with `polled` (R3, R4). -/
def loopCommand (l : LoopId) (polled : Kiosk) (r : RxResult) : Instr :=
  match r with
  | .abandoned cause => .frameAbandoned l cause
  | .badCheck => .missBadCheck l
  | .good f =>
    if f.addr.toNat = 128 + polled.val then decodeReply l (toggleOf f.control) f.kind f.payload
    else .missWrongAddress l

/-- The kind and payload of a kiosk's reply (Table 12-4); none for a command that is no good reply. -/
def encodeReply : Instr → Option (Byte × List Byte)
  | .nil _ _ => some (0x20, [])
  | .malformedReply _ _ kind payload => some (kind, payload)
  | .status _ _ d c p s => some (0x21, beBytes 1 d.code ++ beBytes 1 c.code ++ beBytes 1 p.code ++ beBytes 1 s.code)
  | .keySelect _ _ item =>
    let body : List Byte :=
      match item with
      | .product n => 0 :: beBytes 2 n
      | .topup n => 1 :: beBytes 2 n
      | .zones n => 2 :: beBytes 2 n
      | .riderClass c => 3 :: beBytes 2 c.code
      | .quantity n => 4 :: beBytes 2 n
      | .carrier c => 5 :: beBytes 2 c.code
    some (0x22, 0 :: body)
  | .keyConfirm _ _ => some (0x22, [1])
  | .keyCancel _ _ => some (0x22, [2])
  | .keyReceiptYes _ _ => some (0x22, [3])
  | .keyReceiptNo _ _ => some (0x22, [4])
  | .coin _ _ r1 r2 r3 => some (0x23, beBytes 2 r1 ++ beBytes 2 r2 ++ beBytes 2 r3)
  | .landed _ _ d =>
    some (0x24, match d with
      | .escrow => [0, 0]
      | .tube t => 1 :: beBytes 1 t.val
      | .cashbox => [2, 0]
      | .ret => [3, 0])
  | .cardRemoval _ _ => some (0x25, [0])
  | .cardImage _ _ c =>
    some (0x25, 1 :: (beBytes 4 c.number ++ beBytes 1 c.cls.code ++ beBytes 3 c.balance ++ beBytes 2 c.counter ++
      match c.pass with
      | none => [0]
      | some p => 1 :: (beBytes 2 p.product ++ beBytes 1 p.zones ++ beBytes 2 p.validFrom ++ beBytes 2 p.validUntil)))
  | .cardResult _ _ r card counter => some (0x26, beBytes 1 r.code ++ beBytes 4 card ++ beBytes 2 counter)
  | .payReport _ _ counts => some (0x27, counts.toList.flatMap (beBytes 1))
  | .printRdy _ _ slots => some (0x28, beBytes 1 slots)
  | .fill _ _ counts => some (0x29, counts.toList.flatMap (beBytes 1))
  | _ => none

/-! ### Requests of the depot line (Tables 11-3, 12-6 and 12-7) -/

/-- The code of a banked table (R190 and 12.5: HEADER 0x07 through HOLIDAY 0x0D). -/
def BankedTable.code : BankedTable → Nat
  | .header => 7 | .product => 8 | .fare => 9 | .band => 10 | .dayplan => 11 | .cls => 12 | .holiday => 13

/-- The banked table of a code. -/
def bankedOf (n : Nat) : Option BankedTable :=
  match n with
  | 7 => some .header | 8 => some .product | 9 => some .fare | 10 => some .band
  | 11 => some .dayplan | 12 => some .cls | 13 => some .holiday | _ => none

/-- The bytes of a unit of each table (Table 12-7), by table code; none above 0x0D. -/
def unitLength (code : Nat) : Option Nat :=
  match code with
  | 0 => some 2 | 1 => some 1 | 2 => some 9 | 3 => some 10 | 4 => some 4 | 5 => some 2 | 6 => some 34
  | 7 => some 32 | 8 => some 32 | 9 => some 16 | 10 => some 8 | 11 => some 19 | 12 => some 4 | 13 => some 3
  | _ => none

/-- `n` two-byte fields from an offset. -/
def halvesAt (p : List Byte) (i : Nat) : Nat → List Half
  | 0 => []
  | n + 1 => halfAt p i :: halvesAt p (i + 2) n

/-- `n` day plan slots from an offset. -/
def slotsAt (p : List Byte) (i : Nat) : Nat → List BandSlot
  | 0 => []
  | n + 1 => { start := halfAt p i, cls := byteAt p (i + 2) } :: slotsAt p (i + 3) n

/-- A TABLE-WRITE with a payload of the right length for its table: table code, bank letter, index,
sub-index, unit (Table 12-6). -/
def writeOf (p : List Byte) : Option Instr :=
  let bank := byteAt p 1
  let idx := byteAt p 2
  let sub := byteAt p 3
  match (byteAt p 0).toNat with
  | 0 => some (.tableWriteLoop idx (byteAt p 4) (byteAt p 5))
  | 1 => some (.tableWriteKiosk idx (byteAt p 4))
  | 2 => some (.tableWriteCalib idx ⟨halfAt p 4, byteAt p 6, halfAt p 7, byteAt p 9, halfAt p 10, byteAt p 12⟩)
  | 3 => some (.tableWriteCoin idx ⟨byteAt p 4, halfAt p 5, byteAt p 7, byteAt p 8, byteAt p 9, byteAt p 10,
      byteAt p 11, byteAt p 12, byteAt p 13⟩)
  | 4 => some (.tableWriteTube idx sub ⟨byteAt p 4, byteAt p 5, byteAt p 6, byteAt p 7⟩)
  | 5 => some (.tableWriteSettings idx (halfAt p 4))
  | 6 => some (.tableWriteTemplate idx sub ⟨byteAt p 4, byteAt p 5, p.drop 6⟩)
  | 7 => some (.tableWriteHeader bank ⟨byteAt p 4, byteAt p 5, tripleAt p 6, halfAt p 9, halfAt p 11, halfAt p 13,
      tripleAt p 15, halfAt p 18, halvesAt p 20 8⟩)
  | 8 => some (.tableWriteProduct bank idx ⟨byteAt p 4, halfAt p 5, (p.drop 7).take 20, byteAt p 27, byteAt p 28,
      byteAt p 29, byteAt p 30, byteAt p 31, byteAt p 32, byteAt p 33, byteAt p 34, byteAt p 35⟩)
  | 9 => some (.tableWriteFare bank idx (halvesAt p 4 8))
  | 10 => some (.tableWriteBand bank idx (halvesAt p 4 4))
  | 11 => some (.tableWriteDayplan bank idx ⟨byteAt p 4, slotsAt p 5 6⟩)
  | 12 => some (.tableWriteClass bank idx (p.drop 4))
  | 13 => some (.tableWriteHoliday bank idx ⟨byteAt p 4, halfAt p 5⟩)
  | _ => none

/-- A TABLE-READ of four bytes (Table 12-6). The index of a SETTINGS read and the sub-index of a TUBE read are
not judged (DESIGN CHOICE, log entry 36). -/
def readOf (p : List Byte) : Option Instr :=
  let bank := byteAt p 1
  let idx := byteAt p 2
  match (byteAt p 0).toNat with
  | 0 => some (.tableReadLoop idx)
  | 1 => some (.tableReadKiosk idx)
  | 2 => some (.tableReadCalib idx)
  | 3 => some (.tableReadCoin idx)
  | 4 => some (.tableReadTube idx)
  | 5 => some .tableReadSettings
  | 6 => some (.tableReadTemplate idx (byteAt p 3))
  | n => (bankedOf n).map (fun t => .tableReadBanked t bank idx)

/-- A KIOSK-CONTROL by its action code (Table 11-6). -/
def controlOf (kiosk action : Byte) : Option Instr :=
  match action.toNat with
  | 0 => some (.kioskControlInService kiosk)
  | 1 => some (.kioskControlOutOfService kiosk)
  | 2 => some (.kioskControlBlock kiosk)
  | 3 => some (.kioskControlRelease kiosk)
  | 4 => some (.kioskControlModeLatched kiosk)
  | 5 => some (.kioskControlModeFollowing kiosk)
  | _ => none

/-- A MODE-SET by its mode code (Table 12-6). -/
def modeSetOf (mode : Byte) : Option Instr :=
  match mode.toNat with
  | 0 => some .modeSetLoading
  | 1 => some .modeSetSelling
  | 2 => some .modeSetSuspended
  | _ => none

/-- The length a request's payload must have (Table 12-6, R192): none for a kind outside Table 11-3 and
for a table code above 0x0D, which is passed on to be refused BAD_FIELD. -/
def requestLength (kind : Byte) (p : List Byte) : Option Nat :=
  match kind.toNat with
  | 0x41 => some 6
  | 0x42 => if p.length < 4 then some 4 else (unitLength (byteAt p 0).toNat).map (4 + ·)
  | 0x43 => if p.length < 4 then some 4 else (unitLength (byteAt p 0).toNat).map (fun _ => 4)
  | 0x44 => some 6
  | 0x46 => some 4
  | 0x47 => some 4
  | 0x4C => some 5
  | 0x4E => some 4
  | 0x4F => some 4
  | 0x50 => some 2
  | 0x51 => some 1
  | 0x52 => some 3
  | 0x53 => some 1
  | 0x40 | 0x45 | 0x48 | 0x49 | 0x4A | 0x4B | 0x4D | 0x54 => some 0
  | _ => none

/-- The row that a request of the right length stands for; none where no row does (a kind outside
Table 11-3, a table code above 0x0D, an action or a mode beyond its list). -/
def rowOf (kind : Byte) (p : List Byte) : Option Instr :=
  match kind.toNat with
  | 0x40 => some .statusRead
  | 0x41 => some (.clockSet ⟨byteAt p 0, byteAt p 1, byteAt p 2, byteAt p 3, byteAt p 4, byteAt p 5⟩)
  | 0x42 => writeOf p
  | 0x43 => readOf p
  | 0x44 => some (.bankSwitch (byteAt p 0) ⟨byteAt p 1, byteAt p 2, byteAt p 3, byteAt p 4, byteAt p 5⟩)
  | 0x45 => some .switchCancel
  | 0x46 => some (.stoplistAdd (wordAt p 0))
  | 0x47 => some (.stoplistRemove (wordAt p 0))
  | 0x48 => some .stoplistClear
  | 0x49 => some .journalRead
  | 0x4A => some .journalPop
  | 0x4B => some .authFetch
  | 0x4C => some (.authAnswer (byteAt p 0) (halfAt p 1) (byteAt p 3) (byteAt p 4))
  | 0x4D => some .eventsRead
  | 0x4E => some (.eventsClear (wordAt p 0))
  | 0x4F => some (.eventsMask (wordAt p 0))
  | 0x50 => controlOf (byteAt p 0) (byteAt p 1)
  | 0x51 => some (.kioskRead (byteAt p 0))
  | 0x52 => some (.floatSet (tripleAt p 0))
  | 0x53 => modeSetOf (byteAt p 0)
  | 0x54 => some .restart
  | _ => none

/-- The row of a request frame whose payload has the length of its kind (R179 steps 1 and 2, R192). -/
def parseRequest (kind : Byte) (p : List Byte) : Option Instr :=
  if requestLength kind p = some p.length then rowOf kind p else none

/-- The command of a request to this station: its row, or BAD_KIND with the raw frame where the envelope
or the row's own selector is refused. -/
def decodeRequest (kind : Byte) (p : List Byte) : Instr :=
  (parseRequest kind p).getD (.badKind kind p)

/-- The command of the depot receiver's result at a station (R175). -/
def depotCommand (station : Fin 32) (r : RxResult) : Instr :=
  match r with
  | .abandoned _ => .depotBadFrame
  | .badCheck => .depotBadFrame
  | .good f =>
    if f.addr.toNat ≠ station.val then .depotFrameOtherStation
    else if 128 ≤ f.kind.toNat then .depotFrameNoReply
    else decodeRequest f.kind f.payload

/-- The bytes of a list of two-byte fields. -/
def halvesBytes (l : List Half) : List Byte := l.flatMap halfBytes

/-- A TABLE-WRITE payload. -/
def writeBytes (code : Nat) (bank index sub : Byte) (unit : List Byte) : Byte × List Byte :=
  (0x42, BitVec.ofNat 8 code :: bank :: index :: sub :: unit)

/-- A TABLE-READ payload. -/
def readBytes (code : Nat) (bank index sub : Byte) : Byte × List Byte :=
  (0x43, [BitVec.ofNat 8 code, bank, index, sub])

/-- The bytes of the units of Table 12-7. -/
def CalibUnit.bytes (u : CalibUnit) : List Byte :=
  halfBytes u.offset1 ++ [u.gain1] ++ halfBytes u.offset2 ++ [u.gain2] ++ halfBytes u.offset3 ++ [u.gain3]
def CoinUnit.bytes (u : CoinUnit) : List Byte :=
  [u.valid] ++ halfBytes u.value ++ [u.low1, u.high1, u.low2, u.high2, u.low3, u.high3, u.use]
def TubeUnit.bytes (u : TubeUnit) : List Byte := [u.coinType, u.capacity, u.count, u.lowMark]
def TemplateUnit.bytes (u : TemplateUnit) : List Byte := u.kind :: u.condition :: u.body
def HeaderUnit.bytes (u : HeaderUnit) : List Byte :=
  [u.set, u.step] ++ tripleBytes u.maxSale ++ halfBytes u.fee ++ halfBytes u.topupMin ++ halfBytes u.topupMax ++
    tripleBytes u.cardMax ++ halfBytes u.offlineLimit ++ halvesBytes u.denominations
def ProductUnit.bytes (u : ProductUnit) : List Byte :=
  [u.valid] ++ halfBytes u.code ++ u.name ++ [u.kind, u.days, u.carriers, u.fareRow, u.bandGroup, u.discountGroup,
    u.classes, u.template, u.maxQuantity]
def BandSlot.bytes (s : BandSlot) : List Byte := halfBytes s.start ++ [s.cls]
def DayplanUnit.bytes (u : DayplanUnit) : List Byte := u.count :: u.slots.flatMap BandSlot.bytes
def HolidayUnit.bytes (u : HolidayUnit) : List Byte := u.valid :: halfBytes u.day

/-- The kind and payload of a depot request; fields that Table 12-6 says are ignored are sent as 0. None
for a command that is no request. -/
def encodeRequest : Instr → Option (Byte × List Byte)
  | .badKind kind p => some (kind, p)
  | .statusRead => some (0x40, [])
  | .clockSet d => some (0x41, [d.year, d.month, d.day, d.hour, d.minute, d.second])
  | .tableWriteLoop i r e => some (writeBytes 0 0 i 0 [r, e])
  | .tableWriteKiosk i c => some (writeBytes 1 0 i 0 [c])
  | .tableWriteCalib i u => some (writeBytes 2 0 i 0 u.bytes)
  | .tableWriteCoin i u => some (writeBytes 3 0 i 0 u.bytes)
  | .tableWriteTube i t u => some (writeBytes 4 0 i t u.bytes)
  | .tableWriteSettings i v => some (writeBytes 5 0 i 0 (halfBytes v))
  | .tableWriteTemplate i pl u => some (writeBytes 6 0 i pl u.bytes)
  | .tableWriteHeader b u => some (writeBytes 7 b 0 0 u.bytes)
  | .tableWriteProduct b i u => some (writeBytes 8 b i 0 u.bytes)
  | .tableWriteFare b i cells => some (writeBytes 9 b i 0 (halvesBytes cells))
  | .tableWriteBand b i factors => some (writeBytes 10 b i 0 (halvesBytes factors))
  | .tableWriteDayplan b i u => some (writeBytes 11 b i 0 u.bytes)
  | .tableWriteClass b i percents => some (writeBytes 12 b i 0 percents)
  | .tableWriteHoliday b i u => some (writeBytes 13 b i 0 u.bytes)
  | .tableReadLoop i => some (readBytes 0 0 i 0)
  | .tableReadKiosk i => some (readBytes 1 0 i 0)
  | .tableReadCalib i => some (readBytes 2 0 i 0)
  | .tableReadCoin i => some (readBytes 3 0 i 0)
  | .tableReadTube i => some (readBytes 4 0 i 0)
  | .tableReadSettings => some (readBytes 5 0 0 0)
  | .tableReadTemplate i pl => some (readBytes 6 0 i pl)
  | .tableReadBanked t b i => some (readBytes t.code b i 0)
  | .bankSwitch b t => some (0x44, [b, t.year, t.month, t.day, t.hour, t.minute])
  | .switchCancel => some (0x45, [])
  | .stoplistAdd n => some (0x46, wordBytes n)
  | .stoplistRemove n => some (0x47, wordBytes n)
  | .stoplistClear => some (0x48, [])
  | .journalRead => some (0x49, [])
  | .journalPop => some (0x4A, [])
  | .authFetch => some (0x4B, [])
  | .authAnswer k s a d => some (0x4C, [k] ++ halfBytes s ++ [a, d])
  | .eventsRead => some (0x4D, [])
  | .eventsClear e => some (0x4E, wordBytes e)
  | .eventsMask e => some (0x4F, wordBytes e)
  | .kioskControlInService k => some (0x50, [k, 0])
  | .kioskControlOutOfService k => some (0x50, [k, 1])
  | .kioskControlBlock k => some (0x50, [k, 2])
  | .kioskControlRelease k => some (0x50, [k, 3])
  | .kioskControlModeLatched k => some (0x50, [k, 4])
  | .kioskControlModeFollowing k => some (0x50, [k, 5])
  | .kioskRead k => some (0x51, [k])
  | .floatSet f => some (0x52, tripleBytes f)
  | .modeSetLoading => some (0x53, [0])
  | .modeSetSelling => some (0x53, [1])
  | .modeSetSuspended => some (0x53, [2])
  | .restart => some (0x54, [])
  | _ => none

/-- A command that its own frame spells: MALFORMED_REPLY holds a payload no other row reads, and BAD_KIND
a request no other row reads. -/
def Instr.canonical (i : Instr) : Bool :=
  i.wellFormed &&
    match i with
    | .malformedReply l a kind p => (parseReply l a kind p).isNone
    | .badKind kind p => (parseRequest kind p).isNone
    | _ => true

end Sys2Proof
end

