-- ==== Sys2Proof/Machine/State.lean ====
section
/-! DEFINITION. The state of the KT416 as plain data, block by block (spec 00_scope.md, Table 0-1), its
value after a cold start, and the reasons a step can stop. -/

namespace Sys2Proof.Machine

/-! ### Loop Controllers (chapter 1) -/

/-- Link state of a kiosk (Table 1-2). -/
inductive LinkState | unused | absent | present
  deriving DecidableEq, Repr

/-- Loop rates (R1). -/
inductive LoopRate | r38400 | r115200
  deriving DecidableEq, Repr

/-- Door edge selection of a loop (R19). -/
inductive DoorEdge | opening | closing | both
  deriving DecidableEq, Repr

/-- The filter of one status input (R17): filtered value, candidate, agreement count. -/
structure Filter (α : Type) where
  value : α
  candidate : Option α
  count : Nat
  deriving DecidableEq, Repr

/-- Reject reasons of a GATE, in the order of Table 12-5. -/
inductive Reason
  | none | unknown | ambiguous | refused | inletBlocked | notPaying | noChange | tableChanged | cancelled | secondCoin
  deriving DecidableEq, Repr

/-- Inlet state (Table 3-3). -/
inductive InletState | opened | blocked
  deriving DecidableEq, Repr

/-- Message codes of the display, in the order of Table 5-3. -/
inductive Message
  | ready | closed | outOfService | select | price | insertCard
  | priceChanged | notOffered | qtyLimit | overLimit | amountInvalid | overBalance
  | journalFull | noPrinter | passPresent | cardBlocked
  | denied | offlineLimit | offlineTableFull | floatExhausted
  | authorising | insertCoins | writingCard | change | refund | timedOut | cancelled | failed | thankYou
  deriving DecidableEq, Repr

/-- The display record (R100). -/
structure Display where
  due : Option Nat
  credit : Nat
  remaining : Nat
  message : Message
  indicator : Bool
  offered : List Nat
  deriving DecidableEq, Repr

/-- A single-ticket entry of a card write (Table 7-4). -/
structure SingleTicket where
  product : Nat
  zones : Nat
  quantity : Nat
  day : Nat
  deriving DecidableEq, Repr

/-- A card write (Table 7-4); a pass of none is KEEP. -/
structure CardWrite where
  card : Nat
  expected : Nat
  counter : Nat
  balance : Nat
  pass : Option PassSlot
  single : Option SingleTicket
  deriving DecidableEq, Repr

/-- The two actions of an ESCROW command (Table 12-5). -/
inductive EscrowAction | ret | drop
  deriving DecidableEq, Repr

/-- A command for a kiosk with its payload (R12, Table 12-5). Its owner follows from its kind (R12). -/
inductive Cmd
  | gate (route : Dest) (reason : Reason)
  | pay (order : List (TubeNo × Nat))
  | escrow (action : EscrowAction) (entries : Nat) (dests : List Dest)
  | show (record : Display)
  | cardWrite (write : CardWrite)
  | print (lines : List (List Byte)) (cut : Bool)
  | inlet (state : InletState)
  deriving DecidableEq, Repr

/-- The kinds of commands (R12). -/
inductive CmdKind | gate | pay | escrow | show | cardWrite | print | inlet
  deriving DecidableEq, Repr

/-- A command in an outbound queue (1.4): unsent, or sent with its toggle T. -/
structure QCmd where
  cmd : Cmd
  sent : Option Bool
  deriving DecidableEq, Repr

/-- The link part of a kiosk context (Table 1-2), its input filters and door report flag (1.5), its
outbound queue and its two held slots (1.4). Configured means not UNUSED (R5, R6). -/
structure KLink where
  state : LinkState
  missCount : Nat
  pollNumber : Nat
  resyncPending : Bool
  lastToggle : Bool
  firstStatusPending : Bool
  door : Filter DoorIn
  cashbox : Filter CashboxIn
  paper : Filter PaperIn
  service : Filter ServiceIn
  doorReport : Bool
  queue : List QCmd
  heldShow : Option Display
  heldInlet : Option InletState
  deriving DecidableEq, Repr

/-- What the poll of an exchange is: a rediscovery poll (R10), a RESYNC poll (R9), a POLL frame with an
empty queue, or the head command (R15). -/
inductive PollKind | rediscovery | resync | poll | command
  deriving DecidableEq, Repr

/-- The exchange in progress on a loop (R3): the polled kiosk, its poll, the rate it began at (R1) and the
frame sent. -/
structure Exchange where
  kiosk : Kiosk
  poll : PollKind
  rate : LoopRate
  frame : List Byte
  deriving DecidableEq, Repr

/-- One loop: its loop table entry (R1), the exchange in progress, the kiosks left in the round, whether
the round's rediscovery poll was given, the rotation position (R10), and the kiosks configured in the round,
which join the rotation from the next one (R6). -/
structure LoopCtl where
  rate : LoopRate
  edge : DoorEdge
  exchange : Option Exchange
  round : List Kiosk
  rediscovered : Bool
  rotation : Kiosk
  joining : List Kiosk
  deriving DecidableEq, Repr

/-! ### Coin Classifier (chapter 2) -/

/-- One calibration record (Table 2-1). -/
structure Calib where
  offset : Nat
  gain : Nat
  deriving DecidableEq, Repr

/-- A coin's use (Table 2-3). -/
inductive CoinUse | accept | refuse
  deriving DecidableEq, Repr

/-- A valid coin table entry (Table 2-3). -/
structure CoinEntry where
  value : Nat
  low1 : Nat
  high1 : Nat
  low2 : Nat
  high2 : Nat
  low3 : Nat
  high3 : Nat
  use : CoinUse
  deriving DecidableEq, Repr

/-- The coin-in-flight record (Table 2-4). -/
structure Flight where
  coinType : Option CoinType
  credit : Option Nat
  route : Dest
  reason : Reason
  gateTaken : Bool
  released : Bool
  deriving DecidableEq, Repr

/-- The Coin Classifier's state of one kiosk: calibration records of m1, m2, m3, coin in flight, returns
owed (R20, R29). -/
structure KCoin where
  calib1 : Calib
  calib2 : Calib
  calib3 : Calib
  flight : Option Flight
  returnsOwed : Nat
  deriving DecidableEq, Repr

/-! ### Cash Unit (chapter 3) -/

/-- An escrow entry (Table 3-1). -/
structure EscrowEntry where
  coinType : Option CoinType
  value : Nat
  deriving DecidableEq, Repr

/-- Origin of an escrow command (Table 3-1). -/
inductive EscrowOrigin | session | stranded
  deriving DecidableEq, Repr

/-- The escrow command in the outbound queue (Table 3-1): a DROP has one destination per entry. -/
structure EscrowCmd where
  action : EscrowAction
  entries : List EscrowEntry
  dests : List Dest
  origin : EscrowOrigin
  deriving DecidableEq, Repr

/-- A held escrow request of the Session Engine, with the entries moved into it (R39). -/
structure EscrowReq where
  action : EscrowAction
  entries : List EscrowEntry
  deriving DecidableEq, Repr

/-- Tube state (Table 3-2). -/
inductive TubeState | payable | suspect
  deriving DecidableEq, Repr

/-- A tube record (Table 3-2). -/
structure Tube where
  coinType : Option CoinType
  capacity : Nat
  count : Nat
  lowMark : Nat
  state : TubeState
  lowFlag : Bool
  deriving DecidableEq, Repr

/-- The outstanding payout order (R44): tubes and commanded counts, and whether its PAY was taken. -/
structure PayOrder where
  entries : List (TubeNo × Nat)
  taken : Bool
  deriving DecidableEq, Repr

/-- Inlet mode (Table 3-3). -/
inductive InletMode | latched | following
  deriving DecidableEq, Repr

/-- Inlet state of one kiosk (Table 3-3): the three causes, the mode, reopen waiting, the run session. -/
structure Inlet where
  state : InletState
  cashboxFull : Bool
  rejectRun : Bool
  server : Bool
  mode : InletMode
  reopenWaiting : Bool
  runSession : Option Nat
  deriving DecidableEq, Repr

/-- The Cash Unit's state of one kiosk. The cashbox state is the filtered CASHBOX input (R48) and is kept
with the filters. -/
structure KCash where
  escrow : List EscrowEntry
  escrowCmd : Option EscrowCmd
  held : List EscrowReq
  strandedMark : Bool
  tubes : Vector Tube 6
  order : Option PayOrder
  cashboxCount : Nat
  inlet : Inlet
  deriving DecidableEq, Repr

/-! ### Tariff Unit (chapter 4) -/

/-- The two banks. -/
inductive BankId | a | b
  deriving DecidableEq, Repr

/-- Bank states (Table 4-4). -/
inductive BankState | empty | editing | valid | active
  deriving DecidableEq, Repr

/-- Header fields (Table 4-2); eight denominations, 0 for unused. -/
structure Header where
  step : Nat
  maxSale : Nat
  fee : Nat
  topupMin : Nat
  topupMax : Nat
  cardMax : Nat
  offlineLimit : Nat
  denominations : List Nat
  deriving DecidableEq, Repr

/-- Product kinds (Table 4-3). -/
inductive ProductKind | single | pass
  deriving DecidableEq, Repr

/-- Carriers of a product (Table 4-3). -/
inductive Carriers | paper | card | both
  deriving DecidableEq, Repr

/-- A set of rider classes (Table 4-3, class-allowed set). -/
structure ClassSet where
  adult : Bool
  child : Bool
  senior : Bool
  concession : Bool
  deriving DecidableEq, Repr

/-- A valid product entry (Table 4-3). -/
structure Product where
  code : Nat
  name : List Byte
  kind : ProductKind
  days : Nat
  carriers : Carriers
  fareRow : Fin 16
  bandGroup : Fin 4
  discountGroup : Fin 4
  classes : ClassSet
  template : Fin 16
  maxQuantity : Nat
  deriving DecidableEq, Repr

/-- One band of a day plan: start minute and band class. -/
structure Band where
  start : Nat
  cls : Fin 4
  deriving DecidableEq, Repr

/-- One tariff bank (Table 4-1). A fare cell of none is NOT_SOLD; a plan of none is unwritten. -/
structure Bank where
  state : BankState
  header : Option Header
  products : Vector (Option Product) 64
  fares : Vector (List (Option Nat)) 16
  bands : Vector (List Nat) 4
  plans : Vector (Option (List Band)) 4
  classes : Vector (List Nat) 4
  holidays : Vector (Option Nat) 32
  deriving DecidableEq, Repr

/-- A calendar date and time, to the second (Table 10-1). -/
structure DateTime where
  year : Nat
  month : Nat
  day : Nat
  hour : Nat
  minute : Nat
  second : Nat
  deriving DecidableEq, Repr

/-- The scheduled switch (R54): the bank to become ACTIVE and the effective minute T (its second is 0). -/
structure Switch where
  bank : BankId
  minute : DateTime
  deriving DecidableEq, Repr

/-- The Tariff Unit. -/
structure Tariff where
  bankA : Bank
  bankB : Bank
  switch : Option Switch
  deriving DecidableEq, Repr

/-- Day types (R68). -/
inductive DayType | weekday | saturday | sunday | holiday
  deriving DecidableEq, Repr

/-- The product snapshot of a price record (Table 4-6). -/
structure Snapshot where
  code : Nat
  name : List Byte
  kind : ProductKind
  days : Nat
  carriers : Carriers
  template : Fin 16
  deriving DecidableEq, Repr

/-- The part of a price record that depends on its kind (Table 4-6). -/
inductive PriceDetail
  | sale (snapshot : Snapshot) (dayType : DayType) (bandClass : Fin 4)
  | topup (amount fee : Nat)
  deriving DecidableEq, Repr

/-- A price record (Table 4-6). -/
structure PriceRecord where
  due : Nat
  bank : BankId
  detail : PriceDetail
  deriving DecidableEq, Repr

/-! ### Session Engine (chapter 5) -/

/-- Session states, in the order of Table 5-1. -/
inductive SessState | idle | selecting | authorising | paying | writing | dispensing | cancelling
  deriving DecidableEq, Repr

/-- Session kinds (Table 5-1). -/
inductive SessKind | paperSale | cardSale | topup
  deriving DecidableEq, Repr

/-- Authorisation states (Table 5-1). -/
inductive AuthState | none | pending | grantedOnline | grantedOffline | denied
  deriving DecidableEq, Repr

/-- Write states (Table 5-1). -/
inductive WriteState | none | issued | done | failed | unknown
  deriving DecidableEq, Repr

/-- Dispense purposes (Table 5-1). -/
inductive Purpose | none | change | refund
  deriving DecidableEq, Repr

/-- Session outcomes (Table 5-1). -/
inductive SessOutcome | completed | cancelled | failed | stranded
  deriving DecidableEq, Repr

/-- The selection (Table 5-1). -/
structure Selection where
  product : Option Nat
  topup : Option Nat
  zones : Nat
  cls : RiderClass
  quantity : Nat
  carrier : Carrier
  deriving DecidableEq, Repr

/-- One entry of a payout list (R105). -/
structure PayEntry where
  tube : TubeNo
  count : Nat
  value : Nat
  deriving DecidableEq, Repr

/-- The session record (Table 5-1), with its settlement figures (Table 6-1), the cause of a PAYING cancel as
recorded for the display's message (R86), its four timers (stopped, or running with the length in seconds it
started from) and the card write the Card Authoriser gave it (R135). -/
structure Session where
  state : SessState
  serial : Nat
  selection : Selection
  receiptWanted : Bool
  kind : SessKind
  card : Option CardImage
  shown : Option Nat
  fixed : Option PriceRecord
  credit : Nat
  accepted : Vector Nat 16
  escrowValue : Nat
  rejectRun : Nat
  auth : AuthState
  offlineHeld : Nat
  write : WriteState
  written : Option CardWrite
  purpose : Purpose
  payoutOut : Bool
  payTaken : Bool
  returnOut : Bool
  changeDue : Nat
  payout : List PayEntry
  paidBack : Nat
  retained : Nat
  voucher : Nat
  stranded : Nat
  outcome : Option SessOutcome
  cancelCause : Option Message
  tInactivity : Option Nat
  tAuthorisation : Option Nat
  tCardWrite : Option Nat
  tPayout : Option Nat
  deriving DecidableEq, Repr

/-- The service causes of a kiosk (5.2): OUT_OF_SERVICE while any is set. -/
structure Service where
  service : Bool
  server : Bool
  deriving DecidableEq, Repr

/-! ### Card Authoriser (chapter 7) -/

/-- How a request was concluded (R124). -/
inductive Conclusion | listed | grant | deny | timeout | stoplist | cancelled | linkLoss | atOnce
  deriving DecidableEq, Repr

/-- A kiosk's last-request record (R124). -/
structure LastRequest where
  serial : Nat
  attempt : Nat
  conclusion : Conclusion
  deriving DecidableEq, Repr

/-- An authorisation list entry (Table 7-2). -/
structure AuthEntry where
  kiosk : Kiosk
  serial : Nat
  attempt : Nat
  card : Nat
  cls : RiderClass
  balance : Nat
  amount : Nat
  fetched : Bool
  deriving DecidableEq, Repr

/-- A grant record (Table 7-3). -/
structure Grant where
  card : Nat
  amount : Nat
  deriving DecidableEq, Repr

/-- An offline card table entry (Table 7-3). -/
structure OfflineEntry where
  card : Nat
  total : Nat
  held : Nat
  deriving DecidableEq, Repr

/-- The Card Authoriser's state of one kiosk: grant record, issued write, last-request record. -/
structure KCard where
  grant : Option Grant
  issued : Option CardWrite
  lastRequest : Option LastRequest
  deriving DecidableEq, Repr

/-- The Card Authoriser's shared state: stop-list (strictly ascending), authorisation list (oldest first)
and the offline state of Table 7-3. -/
structure Cards where
  stopList : List Nat
  authList : List AuthEntry
  floatSet : Nat
  floatRemaining : Nat
  delivered : Nat
  floatLow : Bool
  offline : List OfflineEntry
  deriving DecidableEq, Repr

/-! ### Receipt Composer (chapter 8) -/

/-- Fields of a FIELD line, in the order of Table 8-2. -/
inductive Field
  | saleTime | kiosk | serial | productName | zones | cls | qty | due | paid | change | voucher | cardNo
  | newBalance | topupStatus | validFrom | validUntil
  deriving DecidableEq, Repr

/-- Formats (Table 8-1). -/
inductive Format | money | number | date | time | text
  deriving DecidableEq, Repr

/-- Conditions (Table 8-1). -/
inductive Condition | always | ifCard | ifPaperPass | ifVoucher | ifUncertain | ifRefund
  deriving DecidableEq, Repr

/-- Target of a REF line (Table 8-1). -/
inductive RefTarget
  | template (index : Fin 16)
  | product
  deriving DecidableEq, Repr

/-- The printed matter of a line record (Table 8-1). -/
inductive LineBody
  | text (chars : List Byte)
  | field (label : List Byte) (field : Field) (format : Format)
  | rule (separator : Byte)
  | feed (count : Nat)
  | ref (target : RefTarget)
  deriving DecidableEq, Repr

/-- A line record (Table 8-1). -/
structure LineRecord where
  condition : Condition
  body : LineBody
  deriving DecidableEq, Repr

/-- Print job states (Table 8-4). -/
inductive JobState | queued | streaming | suspended
  deriving DecidableEq, Repr

/-- A print job (Table 8-4); L is the number of its lines. -/
structure Job where
  serial : Nat
  lines : List (List Byte)
  taken : Nat
  inFlight : Nat
  nestLimit : Bool
  truncated : Bool
  resumed : Bool
  state : JobState
  deriving DecidableEq, Repr

/-- Receipt states (R93 step 4). -/
inductive ReceiptState | queued | skipped | notPrinted | notWanted
  deriving DecidableEq, Repr

/-! ### Journal (chapter 9) -/

/-- Record kinds (Table 9-1). -/
inductive RecordKind | sale | topup | cancel | stranded
  deriving DecidableEq, Repr

/-- Selection part of a record (Table 9-2). -/
structure RecSelection where
  product : Nat
  zones : Nat
  cls : RiderClass
  quantity : Nat
  deriving DecidableEq, Repr

/-- Card part of a record (Table 9-2). -/
structure RecCard where
  number : Nat
  balance : Nat
  write : WriteState
  deriving DecidableEq, Repr

/-- Authorisation mode of a record (Table 9-2). -/
inductive AuthMode | online | offline
  deriving DecidableEq, Repr

/-- A journal record (Tables 9-1 and 9-2). -/
structure Record where
  kind : RecordKind
  outcome : SessOutcome
  sessKind : SessKind
  kiosk : Kiosk
  serial : Nat
  closeTime : DateTime
  serviceDay : Nat
  bank : BankId
  due : Nat
  credit : Nat
  retained : Nat
  paidBack : Nat
  voucher : Nat
  stranded : Nat
  receipt : ReceiptState
  coins : List (CoinType × Nat)
  selection : Option RecSelection
  topup : Option (Nat × Nat)
  validity : Option (Nat × Nat)
  card : Option RecCard
  cardWrite : Option (Nat × Nat)
  authMode : Option AuthMode
  deriving DecidableEq, Repr

/-- The Journal's shared state (R156, R163). -/
structure Journal where
  records : List Record
  reservations : Nat
  highFlag : Bool
  deriving DecidableEq, Repr

/-- A kiosk's daily counters (R165). -/
structure Daily where
  sales : Nat
  retained : Nat
  deriving DecidableEq, Repr

/-! ### Depot Clock (chapter 10) and Depot Line Controller (chapter 11) -/

/-- Clock states (Table 10-1). -/
inductive ClockState | invalid | valid
  deriving DecidableEq, Repr

/-- The Depot Clock (Table 10-1); the boundary minute is a setting. -/
structure Clock where
  dateTime : DateTime
  state : ClockState
  heldDay : Nat
  deriving DecidableEq, Repr

/-- The SETTINGS table (Table 11-5). -/
structure Settings where
  boundary : Nat
  inactivity : Nat
  authorisation : Nat
  supervision : Nat
  saleTemplate : Fin 16
  topupTemplate : Fin 16
  refundTemplate : Fin 16
  deriving DecidableEq, Repr

/-- Depot line rates, in hunt order (R176). -/
inductive DepotRate | r9600 | r19200 | r38400 | r57600 | r115200
  deriving DecidableEq, Repr

/-- Link states (Table 11-1) with the rate in use: the rate of the hunt step in SEARCH. -/
inductive DepotLink
  | search (step : DepotRate)
  | online (rate : DepotRate)
  | hold (rate : DepotRate)
  deriving DecidableEq, Repr

/-- Restart causes (R188). -/
inductive RestartCause | cold | pin | command
  deriving DecidableEq, Repr

/-- Part modes (Table 11-8). -/
inductive PartMode | loading | selling | suspended
  deriving DecidableEq, Repr

/-- The 24 event kinds, in the order of Table 11-7. -/
inductive EventKind
  | restarted | kioskAbsent | kioskPresent | doorOpenA | doorOpenB | inletBlocked | inletReleased | tubeLow
  | tubeSuspect | cashboxFull | paperLow | paperOut | journalHigh | journalFull | authPending | voucherIssued
  | cardUncertain | strandedCredit | floatLow | floatExhausted | bankSwitched | dayRolled | serviceFill | linkRestored
  deriving DecidableEq, Repr

/-- One place of the pending set (11.4): pending or not, and the kiosks concerned, ascending. -/
structure EventSlot where
  on : Bool
  kiosks : List Kiosk
  deriving DecidableEq, Repr

/-- The Depot Line Controller: station address, link and the length in ms of its running timer (Table
11-1), restart cause, part mode, pending set and mask by kind number, the last reply frame sent, and
whether the reply to RESTART is being sent (R188). -/
structure Depot where
  station : Fin 32
  link : DepotLink
  linkTimerMs : Nat
  cause : RestartCause
  mode : PartMode
  events : Vector EventSlot 24
  unmasked : Vector Bool 24
  reply : Option (List Byte)
  restartOwed : Bool
  deriving DecidableEq, Repr

/-! ### The whole part -/

/-- Everything the twelve blocks hold for one kiosk. -/
structure KioskCtx where
  link : KLink
  coin : KCoin
  cash : KCash
  sess : Session
  disp : Display
  svc : Service
  card : KCard
  jobs : List Job
  daily : Daily
  deriving DecidableEq, Repr

/-- The state of the part, and the queue of commands that wait. -/
structure State where
  pending : List Instr
  loopA : LoopCtl
  loopB : LoopCtl
  kiosks : Vector KioskCtx 16
  coins : Vector (Option CoinEntry) 16
  tariff : Tariff
  cards : Cards
  templates : Vector (Vector (Option LineRecord) 24) 16
  settings : Settings
  journal : Journal
  clock : Clock
  depot : Depot
  deriving DecidableEq, Repr

/-- The faults of a step. The manual gives every command an effect in every state, so there is none: the
type has no constructor. -/
inductive Fault
  deriving DecidableEq, Repr

/-- The refusals of a step. -/
inductive Refusal
  /-- Raised by an arm of `exec` whose command has no meaning yet (safe: the machine stops). No arm of this
  model raises it. -/
  | notModelled (mnemonic : String)
  deriving DecidableEq, Repr

/-! ### Cold values -/

/-- Calibration record after a cold start (Table 2-1). -/
def Calib.cold : Calib := { offset := 0, gain := 2 }

/-- Start values of a filter (Table 1-4, R17). -/
def Filter.start {α : Type} (v : α) : Filter α := { value := v, candidate := none, count := 0 }

/-- Link part after a cold start (R5, R17, R19). -/
def KLink.cold : KLink :=
  { state := .unused, missCount := 0, pollNumber := 1, resyncPending := false, lastToggle := true,
    firstStatusPending := false, door := .start .closed, cashbox := .start .ok, paper := .start .ok,
    service := .start .off, doorReport := false, queue := [], heldShow := none, heldInlet := none }

/-- Tube after a cold start (R42). -/
def Tube.cold : Tube :=
  { coinType := none, capacity := 1, count := 0, lowMark := 0, state := .payable, lowFlag := false }

/-- Inlet after a cold start (R49). -/
def Inlet.cold : Inlet :=
  { state := .opened, cashboxFull := false, rejectRun := false, server := false, mode := .latched,
    reopenWaiting := false, runSession := none }

/-- Cash Unit's state of a kiosk after a cold start (R37, R42, R48, R49). -/
def KCash.cold : KCash :=
  { escrow := [], escrowCmd := none, held := [], strandedMark := false, tubes := Vector.replicate 6 Tube.cold,
    order := none, cashboxCount := 0, inlet := Inlet.cold }

/-- Start values of the selection (R75). -/
def Selection.start : Selection :=
  { product := none, topup := none, zones := 1, cls := .adult, quantity := 1, carrier := .paper }

/-- A session record with its start values and a serial (R75). -/
def Session.start (serial : Nat) : Session :=
  { state := .idle, serial := serial, selection := Selection.start, receiptWanted := false, kind := .paperSale,
    card := none, shown := none, fixed := none, credit := 0, accepted := Vector.replicate 16 0, escrowValue := 0,
    rejectRun := 0, auth := .none, offlineHeld := 0, write := .none, written := none, purpose := .none,
    payoutOut := false, payTaken := false, returnOut := false, changeDue := 0, payout := [], paidBack := 0,
    retained := 0, voucher := 0, stranded := 0, outcome := none, cancelCause := none, tInactivity := none, tAuthorisation := none,
    tCardWrite := none, tPayout := none }

/-- A display record of an IDLE kiosk with a message and the indicator off (R100). -/
def Display.idle (m : Message) : Display :=
  { due := none, credit := 0, remaining := 0, message := m, indicator := false, offered := [] }

/-- Everything of one kiosk after a cold start. -/
def KioskCtx.cold : KioskCtx :=
  { link := KLink.cold,
    coin := { calib1 := Calib.cold, calib2 := Calib.cold, calib3 := Calib.cold, flight := none, returnsOwed := 0 },
    cash := KCash.cold, sess := Session.start 0, disp := Display.idle .closed,
    svc := { service := false, server := false }, card := { grant := none, issued := none, lastRequest := none },
    jobs := [], daily := { sales := 0, retained := 0 } }

/-- A bank after a cold start (Table 4-1). -/
def Bank.cold : Bank :=
  { state := .empty, header := none, products := Vector.replicate 64 none,
    fares := Vector.replicate 16 (List.replicate 8 none), bands := Vector.replicate 4 (List.replicate 4 1000),
    plans := Vector.replicate 4 none, classes := Vector.replicate 4 (List.replicate 4 0),
    holidays := Vector.replicate 32 none }

/-- A loop after a cold start (R1, R10). -/
def LoopCtl.cold (last : Kiosk) : LoopCtl :=
  { rate := .r38400, edge := .opening, exchange := none, round := [], rediscovered := false, rotation := last,
    joining := [] }

/-- 2000-01-01 00:00:00 (Table 10-1). -/
def DateTime.epoch : DateTime := { year := 2000, month := 1, day := 1, hour := 0, minute := 0, second := 0 }

/-- The SETTINGS table after a cold start (Table 11-5). -/
def Settings.cold : Settings :=
  { boundary := 180, inactivity := 45, authorisation := 5, supervision := 5, saleTemplate := 0,
    topupTemplate := 1, refundTemplate := 2 }

/-- The Depot Line Controller after a cold start with the address pins at `pins` (R175, R178, R184, R185,
R187, R188): SEARCH at 9,600 bit/s, LOADING, RESTARTED pending and the only kind unmasked. -/
def Depot.cold (pins : Fin 32) : Depot :=
  { station := pins, link := .search .r9600, linkTimerMs := Config.huntStepMs, cause := .cold, mode := .loading,
    events := (Vector.replicate 24 { on := false, kiosks := [] }).set 0 { on := true, kiosks := [] },
    unmasked := (Vector.replicate 24 false).set 0 true, reply := none, restartOwed := false }

/-- The part after a cold start with the address pins at `pins` and the waiting commands `queue`. -/
def State.cold (pins : Fin 32) (queue : List Instr) : State :=
  { pending := queue, loopA := LoopCtl.cold 7, loopB := LoopCtl.cold 15,
    kiosks := Vector.replicate 16 KioskCtx.cold, coins := Vector.replicate 16 none,
    tariff := { bankA := Bank.cold, bankB := Bank.cold, switch := none },
    cards := { stopList := [], authList := [], floatSet := 0, floatRemaining := 0, delivered := 0,
               floatLow := false, offline := [] },
    templates := Vector.replicate 16 (Vector.replicate 24 none), settings := Settings.cold,
    journal := { records := [], reservations := 0, highFlag := false },
    clock := { dateTime := DateTime.epoch, state := .invalid, heldDay := 0 }, depot := Depot.cold pins }

/-- The machine right after reset: a cold start with no command waiting. The spec gives the address pins
no value; DESIGN CHOICE (log entry 1), unsafe: they show 1. -/
def State.reset : State := State.cold 1 []

end Sys2Proof.Machine
end

