-- ==== Sys2Proof/Machine/Ops.lean ====
section
/-! DEFINITION. The named operations over the state: the accessors and updates of one kiosk's parts, the
outbound command queue (section 1.4), the display record (R100) and the readings that several blocks make. -/

namespace Sys2Proof.Machine

/-- Kiosks 0–15 in ascending order. -/
def allKiosks : List Kiosk := [0, 1, 2, 3, 4, 5, 6, 7, 8, 9, 10, 11, 12, 13, 14, 15]

/-- Tubes 0–5 in ascending order. -/
def allTubes : List TubeNo := [0, 1, 2, 3, 4, 5]

/-- Coin types 0–15 in ascending order. -/
def allCoinTypes : List CoinType := [0, 1, 2, 3, 4, 5, 6, 7, 8, 9, 10, 11, 12, 13, 14, 15]

/-- A number as an index below `n`, if it is one. -/
def finOf (n m : Nat) : Option (Fin n) := if h : m < n then some ⟨m, h⟩ else none

/-! ### One kiosk's parts -/

/-- Everything the blocks hold for kiosk `k`. -/
def State.ctx (s : State) (k : Kiosk) : KioskCtx := s.kiosks[k]
/-- The state with another context for kiosk `k`. -/
def State.setCtx (s : State) (k : Kiosk) (c : KioskCtx) : State := { s with kiosks := s.kiosks.set k c }
/-- The state with kiosk `k`'s context changed. -/
def State.upd (s : State) (k : Kiosk) (f : KioskCtx → KioskCtx) : State := s.setCtx k (f (s.ctx k))

def State.link (s : State) (k : Kiosk) : KLink := (s.ctx k).link
def State.coin (s : State) (k : Kiosk) : KCoin := (s.ctx k).coin
def State.cash (s : State) (k : Kiosk) : KCash := (s.ctx k).cash
def State.sess (s : State) (k : Kiosk) : Session := (s.ctx k).sess
def State.disp (s : State) (k : Kiosk) : Display := (s.ctx k).disp
def State.svc (s : State) (k : Kiosk) : Service := (s.ctx k).svc
def State.kcard (s : State) (k : Kiosk) : KCard := (s.ctx k).card
def State.jobs (s : State) (k : Kiosk) : List Job := (s.ctx k).jobs
def State.daily (s : State) (k : Kiosk) : Daily := (s.ctx k).daily

def State.updLink (s : State) (k : Kiosk) (f : KLink → KLink) : State := s.upd k (fun c => { c with link := f c.link })
def State.updCoin (s : State) (k : Kiosk) (f : KCoin → KCoin) : State := s.upd k (fun c => { c with coin := f c.coin })
def State.updCash (s : State) (k : Kiosk) (f : KCash → KCash) : State := s.upd k (fun c => { c with cash := f c.cash })
def State.updSess (s : State) (k : Kiosk) (f : Session → Session) : State :=
  s.upd k (fun c => { c with sess := f c.sess })
def State.updSvc (s : State) (k : Kiosk) (f : Service → Service) : State := s.upd k (fun c => { c with svc := f c.svc })
def State.updCard (s : State) (k : Kiosk) (f : KCard → KCard) : State := s.upd k (fun c => { c with card := f c.card })
def State.setDisp (s : State) (k : Kiosk) (d : Display) : State := s.upd k (fun c => { c with disp := d })
def State.setJobs (s : State) (k : Kiosk) (j : List Job) : State := s.upd k (fun c => { c with jobs := j })
def State.setDaily (s : State) (k : Kiosk) (d : Daily) : State := s.upd k (fun c => { c with daily := d })

/-! ### Loops -/

/-- The loop of a kiosk: kiosks 0–7 on Loop A, 8–15 on Loop B. -/
def loopOf (k : Kiosk) : LoopId := if k.val < 8 then .a else .b

/-- The kiosks of a loop, ascending. -/
def loopKiosks : LoopId → List Kiosk
  | .a => [0, 1, 2, 3, 4, 5, 6, 7]
  | .b => [8, 9, 10, 11, 12, 13, 14, 15]

/-- The highest kiosk of a loop (R10). -/
def loopLast : LoopId → Kiosk
  | .a => 7
  | .b => 15

def State.loop (s : State) : LoopId → LoopCtl
  | .a => s.loopA
  | .b => s.loopB

def State.setLoop (s : State) (l : LoopId) (c : LoopCtl) : State :=
  match l with
  | .a => { s with loopA := c }
  | .b => { s with loopB := c }

/-! ### The outbound command queue (R12–R15) -/

/-- The kind of a command. -/
def Cmd.kind : Cmd → CmdKind
  | .gate _ _ => .gate
  | .pay _ => .pay
  | .escrow _ _ _ => .escrow
  | .show _ => .show
  | .cardWrite _ => .cardWrite
  | .print _ _ => .print
  | .inlet _ => .inlet

/-- How many commands of a kind the queue may hold (R12): two PRINTs, one of every other kind. -/
def CmdKind.bound : CmdKind → Nat
  | .print => 2
  | _ => 1

/-- The commands of a kind in a queue. -/
def countKind (q : List QCmd) (kd : CmdKind) : Nat := (q.filter (fun c => decide (c.cmd.kind = kd))).length

/-- The answer to an offer (R12). -/
inductive OfferResult | joined | absent | kindFull
  deriving DecidableEq, Repr

/-- A queue with the command of `c`'s kind given `c`'s payload: same position, same sent mark (R13, R14). -/
def replaceKind (q : List QCmd) (c : Cmd) : List QCmd :=
  q.map (fun x => if x.cmd.kind = c.kind then { x with cmd := c } else x)

/-- An unsent command joins the tail of the queue (R12). -/
def KLink.join (l : KLink) (c : Cmd) : KLink := { l with queue := l.queue ++ [{ cmd := c, sent := none }] }

/-- Whether the queue's command of a kind has been sent; none when it holds no such command. -/
def KLink.sentOf (l : KLink) (kd : CmdKind) : Option Bool :=
  (l.queue.find? (fun x => decide (x.cmd.kind = kd))).map (fun x => x.sent.isSome)

/-- The replacement rule of R13 for a SHOW or an INLET; `hold` places the payload in its held slot. -/
def KLink.offerHeld (l : KLink) (c : Cmd) (hold : KLink → KLink) : KLink :=
  match l.sentOf c.kind with
  | none => l.join c
  | some false => { l with queue := replaceKind l.queue c }
  | some true => hold l

/-- An offer at the Loop Controller (R12, R13). -/
def KLink.offer (l : KLink) (c : Cmd) : KLink × OfferResult :=
  if l.state = .present then
    match c with
    | .show d => (l.offerHeld c (fun x => { x with heldShow := some d }), .joined)
    | .inlet i => (l.offerHeld c (fun x => { x with heldInlet := some i }), .joined)
    | _ => if countKind l.queue c.kind < c.kind.bound then (l.join c, .joined) else (l, .kindFull)
  else (l, .absent)

/-- A rewrite of the payload of a queued command (R14): false (TAKEN) when the queue holds none of its kind. -/
def KLink.rewrite (l : KLink) (c : Cmd) : KLink × Bool :=
  ({ l with queue := replaceKind l.queue c }, (l.sentOf c.kind).isSome)

/-- A block offers a command for a kiosk (R12). -/
def offer (k : Kiosk) (c : Cmd) (s : State) : State × OfferResult :=
  (s.updLink k (fun l => (l.offer c).1), ((s.link k).offer c).2)

/-- The owner rewrites the payload of its queued command (R14). -/
def rewriteCmd (k : Kiosk) (c : Cmd) (s : State) : State := s.updLink k (fun l => (l.rewrite c).1)

/-- A kiosk is gate-busy while its queue holds a GATE (R29). -/
def State.gateBusy (s : State) (k : Kiosk) : Bool := decide (0 < countKind (s.link k).queue .gate)

/-! ### The display record (R100) -/

/-- SHOW is offered with the record as it stands (R100); an offer refused with ABSENT is not kept. -/
def offerShow (k : Kiosk) (s : State) : State := (offer k (.show (s.disp k)) s).1

/-- The display record is set, and SHOW offered, whatever it held. -/
def showDisplay (k : Kiosk) (d : Display) (s : State) : State := offerShow k (s.setDisp k d)

/-- The display record is set; SHOW is offered if a field changed (R100). -/
def putDisplay (k : Kiosk) (d : Display) (s : State) : State :=
  if s.disp k = d then s else showDisplay k d s

/-- The display record of a session with a message (R100): due is the shown price in SELECTING and the
fixed due after CONFIRM; offered amounts stand in SELECTING only. -/
def displayOf (ss : Session) (d : Display) (m : Message) : Display :=
  let due : Option Nat :=
    match ss.state with
    | .idle => none
    | .selecting => ss.shown
    | _ => ss.fixed.map (·.due)
  let credit : Nat := if ss.state = .idle then 0 else ss.credit
  { due := due, credit := credit, remaining := due.getD 0 - credit, message := m, indicator := d.indicator,
    offered := if ss.state = .selecting then d.offered else [] }

/-- The message is set with the record brought up to the session (SHOW if a field changed). -/
def putMessage (k : Kiosk) (m : Message) (s : State) : State := putDisplay k (displayOf (s.sess k) (s.disp k) m) s

/-- The message is set with the record brought up to the session, and SHOW is offered. -/
def showMessage (k : Kiosk) (m : Message) (s : State) : State := showDisplay k (displayOf (s.sess k) (s.disp k) m) s

/-! ### Readings -/

def Tariff.bank (t : Tariff) : BankId → Bank
  | .a => t.bankA
  | .b => t.bankB

def Tariff.setBank (t : Tariff) (i : BankId) (b : Bank) : Tariff :=
  match i with
  | .a => { t with bankA := b }
  | .b => { t with bankB := b }

/-- The ACTIVE bank, if there is one (R54). -/
def Tariff.active (t : Tariff) : Option BankId :=
  if t.bankA.state = .active then some .a else if t.bankB.state = .active then some .b else none

/-- The header of the ACTIVE bank as other blocks read it (R73): none for "no bank". -/
def State.activeHeader (s : State) : Option Header :=
  s.tariff.active.bind (fun i => (s.tariff.bank i).header)

/-- A value request to the Coin Classifier (R22). -/
def State.coinValue (s : State) (t : CoinType) : Option Nat := (s.coins[t]).map (·.value)

/-- The occupancy of the journal (R156). -/
def Journal.occupancy (j : Journal) : Nat := j.records.length + j.reservations

/-- A kiosk is OUT_OF_SERVICE while its cause set holds any cause (5.2). -/
def Service.out (v : Service) : Bool := v.service || v.server

/-- The IDLE message of a kiosk (Table 5-3, rows READY, CLOSED, OUT_OF_SERVICE). -/
def idleMessage (k : Kiosk) (s : State) : Message :=
  if s.depot.mode ≠ .selling then .closed
  else if (s.svc k).out then .outOfService
  else .ready

/-- The sum of the held amounts: the amounts in the grant records (R130). -/
def State.heldTotal (s : State) : Nat :=
  (allKiosks.map (fun k => match (s.kcard k).grant with | some g => g.amount | none => 0)).sum

/-- The escrow value of a list (3.1). -/
def escrowSum (l : List EscrowEntry) : Nat := (l.map (·.value)).sum

/-- Entries waiting in the held escrow requests (R27, R38). -/
def KCash.heldCount (c : KCash) : Nat := (c.held.map (fun r => r.entries.length)).sum

/-- The escrow list and the held requests together hold fewer than four coins (R27, R38). -/
def KCash.escrowRoom (c : KCash) : Bool := decide (c.escrow.length + c.heldCount < Config.escrowPlaces)

/-- The tube of a kiosk that holds a coin type; at most one does (3.2). -/
def tubeHolding (tubes : Vector Tube 6) (t : CoinType) : Option TubeNo :=
  allTubes.find? (fun n => decide ((tubes[n]).coinType = some t))

/-! ### The inactivity timer (R96) -/

/-- The inactivity timer starts from its full length. -/
def startInactivity (k : Kiosk) (s : State) : State :=
  s.updSess k (fun x => { x with tInactivity := some s.settings.inactivity })

/-- A KEY, a CARD or a COIN decision notice restarts the timer in SELECTING and PAYING (R96). -/
def activity (k : Kiosk) (s : State) : State :=
  match (s.sess k).state with
  | .selecting => startInactivity k s
  | .paying => startInactivity k s
  | _ => s

end Sys2Proof.Machine
end

