-- ==== Sys2Proof/Machine/Flags.lean ====
section
/-! DEFINITION. The event flags of the part: the pending set, the mask and ATTENTION (section 11.4). -/

namespace Sys2Proof.Machine

/-- The number of an event kind (Table 11-7). -/
def EventKind.no : EventKind → Fin 24
  | .restarted => 0 | .kioskAbsent => 1 | .kioskPresent => 2 | .doorOpenA => 3 | .doorOpenB => 4
  | .inletBlocked => 5 | .inletReleased => 6 | .tubeLow => 7 | .tubeSuspect => 8 | .cashboxFull => 9
  | .paperLow => 10 | .paperOut => 11 | .journalHigh => 12 | .journalFull => 13 | .authPending => 14
  | .voucherIssued => 15 | .cardUncertain => 16 | .strandedCredit => 17 | .floatLow => 18 | .floatExhausted => 19
  | .bankSwitched => 20 | .dayRolled => 21 | .serviceFill => 22 | .linkRestored => 23

/-- The 24 kinds in number order. -/
def allEvents : List EventKind :=
  [.restarted, .kioskAbsent, .kioskPresent, .doorOpenA, .doorOpenB, .inletBlocked, .inletReleased, .tubeLow,
   .tubeSuspect, .cashboxFull, .paperLow, .paperOut, .journalHigh, .journalFull, .authPending, .voucherIssued,
   .cardUncertain, .strandedCredit, .floatLow, .floatExhausted, .bankSwitched, .dayRolled, .serviceFill, .linkRestored]

/-- The level kinds (Table 11-7). -/
def levelEvents : List EventKind :=
  [.doorOpenA, .doorOpenB, .cashboxFull, .paperOut, .journalFull, .authPending, .floatExhausted]

/-- A kiosk joins an ascending set of kiosks. -/
def insertKiosk (k : Kiosk) : List Kiosk → List Kiosk
  | [] => [k]
  | x :: xs => if k = x then x :: xs else if k < x then k :: x :: xs else x :: insertKiosk k xs

/-- A kind is raised (R184): it enters the pending set, and the kiosk named joins its kiosk set. -/
def raise (e : EventKind) (k : Option Kiosk) (s : State) : State :=
  let slot := s.depot.events[e.no]
  let kiosks := match k with | some k => insertKiosk k slot.kiosks | none => slot.kiosks
  { s with depot := { s.depot with events := s.depot.events.set e.no { on := true, kiosks := kiosks } } }

/-- A kind leaves the pending set with its kiosk set (R184, R186). -/
def clearEvent (e : EventKind) (s : State) : State :=
  { s with depot := { s.depot with events := s.depot.events.set e.no { on := false, kiosks := [] } } }

/-- The pending set is emptied with every kiosk set (R184). -/
def clearAllEvents (s : State) : State :=
  { s with depot := { s.depot with events := Vector.replicate 24 { on := false, kiosks := [] } } }

/-- The kiosks for which a level kind that concerns kiosks holds, ascending (R19, R48, R151, R125). -/
def levelKiosks (e : EventKind) (s : State) : List Kiosk :=
  match e with
  | .doorOpenA => (loopKiosks .a).filter (fun k => (s.link k).doorReport)
  | .doorOpenB => (loopKiosks .b).filter (fun k => (s.link k).doorReport)
  | .cashboxFull =>
    allKiosks.filter (fun k => decide ((s.link k).state ≠ .unused ∧ (s.link k).cashbox.value = .full))
  | .paperOut => allKiosks.filter (fun k => decide ((s.link k).state ≠ .unused ∧ (s.link k).paper.value = .out))
  | .authPending => allKiosks.filter (fun k => s.cards.authList.any (fun x => decide (x.kiosk = k)))
  | _ => []

/-- FLOAT_EXHAUSTED's condition (R134): the float remaining is below the top-up min of the ACTIVE bank. -/
def floatExhaustedHolds (s : State) : Bool :=
  match s.activeHeader with
  | some h => decide (s.cards.floatRemaining < h.topupMin)
  | none => false

/-- Whether a level kind's condition holds. -/
def levelHolds (e : EventKind) (s : State) : Bool :=
  match e with
  | .journalFull => decide (s.journal.occupancy = Config.journalMax)
  | .floatExhausted => floatExhaustedHolds s
  | .authPending => !s.cards.authList.isEmpty
  | e => !(levelKiosks e s).isEmpty

/-- A level kind enters the pending set if its condition holds (R184). -/
def raiseLevel (e : EventKind) (s : State) : State := if levelHolds e s then raise e none s else s

/-- ATTENTION (R179): the pending set holds a kind that the mask leaves unmasked. -/
def attention (s : State) : Bool :=
  allEvents.any (fun e => (s.depot.events[e.no]).on && s.depot.unmasked[e.no])

/-- The kiosk EVENTS-READ gives for a kind (R184, R186): for an edge kind the lowest of its kiosk set, for
a level kind the lowest for which it holds. -/
def eventKiosk (e : EventKind) (s : State) : Option Kiosk :=
  if (s.depot.events[e.no]).on then
    if e ∈ levelEvents then (levelKiosks e s).head? else ((s.depot.events[e.no]).kiosks).head?
  else none

end Sys2Proof.Machine
end

