-- ==== Sys2Proof/Machine/Journal.lean ====
section
/-! DEFINITION. The Journal (chapter 9): reservations, the record and its append, the daily counters and
the high flag. -/

namespace Sys2Proof.Machine

/-- A session asks for a reservation (R157, R163, R164); the answer says whether it was granted. -/
def reserve (s : State) : State × Bool :=
  let n := s.journal.occupancy
  if n < Config.journalMax then
    let high := decide (n + 1 = Config.journalHigh)
    let s1 : State :=
      { s with journal := { s.journal with reservations := s.journal.reservations + 1, highFlag := s.journal.highFlag || high } }
    let s2 := if high then raise .journalHigh none s1 else s1
    (if n + 1 = Config.journalMax then raise .journalFull none s2 else s2, true)
  else (s, false)

/-- The high flag after the occupancy has fallen from `n` by 1 (R163). -/
def highAfterFall (n : Nat) (flag : Bool) : Bool := if n = Config.journalHigh then false else flag

/-- A reservation is released (R158, R163). -/
def releaseReservation (s : State) : State :=
  { s with journal := { s.journal with reservations := s.journal.reservations - 1,
                                       highFlag := highAfterFall s.journal.occupancy s.journal.highFlag } }

/-- The rider class a session is priced for (R79): the card's while one is attached. -/
def Session.pricedClass (x : Session) : RiderClass :=
  match x.card with
  | some c => c.cls
  | none => x.selection.cls

/-- The product snapshot of the fixed price, if it is a sale's (Table 4-6). -/
def Session.snapshot (x : Session) : Option Snapshot :=
  match x.fixed with
  | some { detail := .sale snap _ _, .. } => some snap
  | _ => none

/-- The top-up amount and fee of the fixed price. -/
def Session.topupOf (x : Session) : Option (Nat × Nat) :=
  match x.fixed with
  | some { detail := .topup a f, .. } => some (a, f)
  | _ => none

/-- A write was issued: write state ISSUED, DONE or UNKNOWN (Table 9-2). -/
def WriteState.wasIssued : WriteState → Bool
  | .issued => true
  | .done => true
  | .unknown => true
  | _ => false

/-- The validity of a paper pass dated from service day `n` (R121, R160). -/
def paperValidity (snap : Snapshot) (n : Nat) : Nat × Nat := (n, n + snap.days - 1)

/-- The pass validity part of a record (Table 9-2). -/
def recordValidity (x : Session) (delivered : Bool) (day : Nat) : Option (Nat × Nat) :=
  match x.snapshot with
  | none => none
  | some snap =>
    if snap.kind = .pass then
      match x.kind with
      | .cardSale =>
        if x.write.wasIssued then (x.written.bind (·.pass)).map (fun p => (p.validFrom, p.validUntil)) else none
      | .paperSale => if delivered then some (paperValidity snap day) else none
      | .topup => none
    else none

/-- The kind of a record (R159). -/
def recordKind (outcome : SessOutcome) (kind : SessKind) (credit : Nat) : RecordKind :=
  match outcome with
  | .completed => match kind with | .topup => .topup | _ => .sale
  | .cancelled => .cancel
  | .failed => .cancel
  | .stranded => if 0 < credit then .stranded else .cancel

/-- The authorisation mode part (Table 9-2). -/
def recordMode (x : Session) : Option AuthMode :=
  match x.kind, x.auth with
  | .topup, .grantedOnline => some .online
  | .topup, .grantedOffline => some .offline
  | _, _ => none

/-- The record of a closed session (Tables 9-1 and 9-2). `delivered` says whether the goods were delivered. -/
def recordOf (k : Kiosk) (outcome : SessOutcome) (delivered : Bool) (receipt : ReceiptState) (s : State) : Record :=
  let x := s.sess k
  { kind := recordKind outcome x.kind x.credit, outcome := outcome, sessKind := x.kind, kiosk := k, serial := x.serial,
    closeTime := s.clock.dateTime, serviceDay := s.clock.heldDay,
    bank := (x.fixed.map (·.bank)).getD .a, due := (x.fixed.map (·.due)).getD 0,
    credit := x.credit, retained := x.retained, paidBack := x.paidBack, voucher := x.voucher, stranded := x.stranded,
    receipt := receipt,
    coins := allCoinTypes.filterMap (fun t => if 0 < x.accepted[t] then some (t, x.accepted[t]) else none),
    selection := match x.kind with
      | .topup => none
      | _ => some { product := x.selection.product.getD 0, zones := x.selection.zones, cls := x.pricedClass,
                    quantity := x.selection.quantity },
    topup := match x.kind with | .topup => x.topupOf | _ => none,
    validity := recordValidity x delivered s.clock.heldDay,
    card := x.card.map (fun c => { number := c.number, balance := c.balance, write := x.write }),
    cardWrite := if x.card.isSome = true ∧ x.write.wasIssued = true then x.written.map (fun w => (w.balance, w.counter)) else none,
    authMode := recordMode x }

/-- The daily counters after an append (R165). -/
def Daily.count (d : Daily) (r : Record) : Daily :=
  { sales := if r.kind = .sale ∨ r.kind = .topup then min Config.halfMax (d.sales + 1) else d.sales,
    retained := min Config.wordMax (d.retained + r.retained) }

/-- A record is appended, consuming its session's reservation (R159, R165). -/
def append (k : Kiosk) (r : Record) (s : State) : State :=
  let s1 : State :=
    { s with journal := { s.journal with records := s.journal.records ++ [r], reservations := s.journal.reservations - 1 } }
  s1.setDaily k ((s.daily k).count r)

/-- The oldest record is removed (R162, R163). -/
def popRecord (s : State) : State :=
  { s with journal := { s.journal with records := s.journal.records.drop 1,
                                       highFlag := highAfterFall s.journal.occupancy s.journal.highFlag } }

/-- Both daily counters of every kiosk are cleared (R165). -/
def clearDaily (s : State) : State := allKiosks.foldl (fun t k => t.setDaily k { sales := 0, retained := 0 }) s

end Sys2Proof.Machine
end

