-- ==== Sys2Proof/Machine/Cards.lean ====
section
/-! DEFINITION. The Card Authoriser's own state (chapter 7): stop-list, authorisation list, the offline float
and card table, grants and the card write. What each conclusion does to the session stands in
Machine/Sessions.lean. -/

namespace Sys2Proof.Machine

/-! ### The stop-list (R122) -/

/-- A number enters a strictly ascending list at its place. -/
def insertStop (n : Nat) : List Nat → List Nat
  | [] => [n]
  | x :: xs => if n < x then n :: x :: xs else if n = x then x :: xs else x :: insertStop n xs

/-- A stop-list check (R122). -/
def State.stopListed (s : State) (n : Nat) : Bool := s.cards.stopList.contains n

def State.setStop (s : State) (l : List Nat) : State := { s with cards := { s.cards with stopList := l } }

/-! ### The pass test (R121) -/

/-- The card holds a current pass on a service day (R121). -/
def currentPass (c : CardImage) (day : Nat) : Bool :=
  match c.pass with
  | some p => decide (day ≤ p.validUntil)
  | none => false

/-! ### Float and offline card table (R130–R134) -/

/-- The float low flag and FLOAT_EXHAUSTED are judged (R134). -/
def judgeFloat (s : State) : State :=
  let low := decide (s.cards.floatRemaining * 10 < s.cards.floatSet)
  let s1 : State := { s with cards := { s.cards with floatLow := low } }
  let s2 := if low = true ∧ s.cards.floatLow = false then raise .floatLow none s1 else s1
  raiseLevel .floatExhausted s2

/-- The total counted for a card in this episode: 0 for no entry (R131). -/
def offlineTotal (l : List OfflineEntry) (card : Nat) : Nat :=
  match l.find? (fun e => decide (e.card = card)) with
  | some e => e.total
  | none => 0

/-- The entry of a card changed; an entry whose total is then 0 is removed (R132). -/
def changeEntry (l : List OfflineEntry) (card : Nat) (f : OfflineEntry → OfflineEntry) : List OfflineEntry :=
  (l.map (fun e => if e.card = card then f e else e)).filter (fun e => decide (e.total ≠ 0))

/-- The table after a grant of `a` on a card: its entry is created if there is none (R131). -/
def grantEntry (l : List OfflineEntry) (card a : Nat) : List OfflineEntry :=
  if l.any (fun e => decide (e.card = card)) then
    l.map (fun e => if e.card = card then { e with total := e.total + a, held := e.held + a } else e)
  else l ++ [{ card := card, total := a, held := a }]

/-- The tests of the offline rule: the denial's message, none when every test passes (R131). -/
def offlineDenial (s : State) (card a : Nat) : Option Message :=
  let l := s.cards.offline
  if l.any (fun e => decide (e.card = card)) = false ∧ Config.offlineTableMax ≤ l.length then some .offlineTableFull
  else
    match s.activeHeader with
    | none => some .offlineLimit
    | some h =>
      if h.offlineLimit < offlineTotal l card + a then some .offlineLimit
      else if s.cards.floatRemaining < a then some .floatExhausted
      else none

/-- The offline rule decides amount `a` on a card at kiosk `k` (R131): none for a grant, else the denial. -/
def offlineRule (k : Kiosk) (card a : Nat) (s : State) : State × Option Message :=
  match offlineDenial s card a with
  | some m => (judgeFloat s, some m)
  | none =>
    let s1 : State := { s with cards := { s.cards with floatRemaining := s.cards.floatRemaining - a,
                                                       offline := grantEntry s.cards.offline card a } }
    (judgeFloat (s1.updCard k (fun c => { c with grant := some { card := card, amount := a } })), none)

/-- The kiosk's grant is restored (R132). -/
def restoreGrant (k : Kiosk) (s : State) : State :=
  match (s.kcard k).grant with
  | none => s
  | some g =>
    let s1 : State :=
      { s with cards := { s.cards with
          floatRemaining := s.cards.floatRemaining + g.amount,
          offline := changeEntry s.cards.offline g.card (fun e => { e with total := e.total - g.amount, held := e.held - g.amount }) } }
    judgeFloat (s1.updCard k (fun c => { c with grant := none }))

/-- The kiosk's grant is delivered (R132). -/
def deliverGrant (k : Kiosk) (s : State) : State :=
  match (s.kcard k).grant with
  | none => s
  | some g =>
    let s1 : State :=
      { s with cards := { s.cards with
          delivered := s.cards.delivered + g.amount,
          offline := s.cards.offline.map (fun e => if e.card = g.card then { e with held := e.held - g.amount } else e) } }
    judgeFloat (s1.updCard k (fun c => { c with grant := none }))

/-- The offline card table is cleared but for what running sessions hold (R133). -/
def clearOffline (s : State) : State :=
  { s with cards := { s.cards with
      offline := (s.cards.offline.filter (fun e => decide (e.held ≠ 0))).map (fun e => { e with total := e.held }) } }

/-- FLOAT-SET is taken (R134). -/
def setFloat (f : Nat) (s : State) : State :=
  judgeFloat { s with cards := { s.cards with floatSet := f, floatRemaining := f - s.heldTotal, delivered := 0 } }

/-! ### The authorisation list (R124–R129) -/

/-- The attempt number of a kiosk's next request for a serial (R124). -/
def nextAttempt (last : Option LastRequest) (serial : Nat) : Nat :=
  match last with
  | some r => if r.serial = serial then (if r.attempt = 255 then 1 else r.attempt + 1) else 1
  | none => 1

/-- A kiosk's last-request record takes a conclusion (R124). -/
def conclude (k : Kiosk) (c : Conclusion) (s : State) : State :=
  s.updCard k (fun x => { x with lastRequest := x.lastRequest.map (fun r => { r with conclusion := c }) })

/-- A kiosk's request leaves the list (R126, R127). -/
def unlist (k : Kiosk) (s : State) : State :=
  { s with cards := { s.cards with authList := s.cards.authList.filter (fun e => decide (e.kiosk ≠ k)) } }

/-- A kiosk has a request in the list. -/
def State.listed (s : State) (k : Kiosk) : Bool := s.cards.authList.any (fun e => decide (e.kiosk = k))

/-- A listed request is withdrawn by its session (R127). -/
def withdraw (k : Kiosk) (s : State) : State :=
  if s.listed k then conclude k .cancelled (unlist k s) else s

/-- A request joins the tail of the list; AUTH_PENDING's condition holds from then on (R124, R125). -/
def listRequest (e : AuthEntry) (s : State) : State :=
  raiseLevel .authPending { s with cards := { s.cards with authList := s.cards.authList ++ [e] } }

/-! ### The card write (R121, R135, R137) -/

/-- The write of Table 7-4 for a session with a card and a fixed price, dated by the held service day. -/
def buildWrite (x : Session) (card : CardImage) (day : Nat) : CardWrite :=
  let base : CardWrite :=
    { card := card.number, expected := card.counter, counter := if card.counter = Config.halfMax then 0 else card.counter + 1,
      balance := card.balance, pass := none, single := none }
  match x.topupOf, x.snapshot with
  | some (a, _), _ => { base with balance := card.balance + a }
  | none, some snap =>
    match snap.kind with
    | .pass => { base with pass := some { product := snap.code, zones := x.selection.zones, validFrom := day,
                                          validUntil := day + snap.days - 1 } }
    | .single => { base with single := some { product := snap.code, zones := x.selection.zones,
                                              quantity := x.selection.quantity, day := day } }
  | none, none => base

/-- The kiosk's issued write. -/
def setIssued (k : Kiosk) (w : Option CardWrite) (s : State) : State := s.updCard k (fun c => { c with issued := w })

/-- The Card Authoriser at step 3 of the close (R132, R137): the grant ends, CARD_UNCERTAIN is raised, the
issued write is discarded. `delivered` says whether the goods were delivered. -/
def authoriserClose (k : Kiosk) (outcome : SessOutcome) (delivered : Bool) (s : State) : State :=
  let x := s.sess k
  if x.card.isNone then s
  else
    let s1 := if delivered then deliverGrant k s else restoreGrant k s
    let uncertain := decide (x.write = .unknown) || decide (outcome = .stranded ∧ x.write = .issued)
    let s2 := if uncertain then raise .cardUncertain (some k) s1 else s1
    setIssued k none s2

end Sys2Proof.Machine
end

