-- ==== Sys2Proof/Machine/Calendar.lean ====
section
/-! DEFINITION. The calendar of the Depot Clock: real dates of 2000–2099, days from 2000-01-01, the
service day of a date-time and the advance by one second (sections 10.1 and 10.2). -/

namespace Sys2Proof.Machine

/-- Every year of the range that divides by 4 is a leap year (R167). -/
def isLeap (year : Nat) : Bool := decide (year % 4 = 0)

/-- Days of a month. -/
def monthDays (year month : Nat) : Nat :=
  match month with
  | 2 => if isLeap year then 29 else 28
  | 4 | 6 | 9 | 11 => 30
  | _ => 31

/-- Days of the year before the first of a month. -/
def daysBeforeMonth (year : Nat) : Nat → Nat
  | 0 => 0
  | m + 1 => if m = 0 then 0 else daysBeforeMonth year m + monthDays year m

/-- A real calendar date in the years 2000–2099 (R169). -/
def realDate (year month day : Nat) : Bool :=
  decide (2000 ≤ year ∧ year ≤ 2099 ∧ 1 ≤ month ∧ month ≤ 12 ∧ 1 ≤ day ∧ day ≤ monthDays year month)

/-- A real date and time of day (R169). -/
def DateTime.real (d : DateTime) : Bool :=
  realDate d.year d.month d.day && decide (d.hour ≤ 23 ∧ d.minute ≤ 59 ∧ d.second ≤ 59)

/-- Days from 2000-01-01 to a date (R168). -/
def dayNumber (year month day : Nat) : Nat :=
  365 * (year - 2000) + (year - 2000 + 3) / 4 + daysBeforeMonth year month + (day - 1)

/-- The month and day of a day of a year, counted from 0. -/
def monthDayOf (year : Nat) : Nat → Nat → Nat → Nat × Nat
  | 0, month, d => (month, d + 1)
  | fuel + 1, month, d =>
    if d < monthDays year month then (month, d + 1) else monthDayOf year fuel (month + 1) (d - monthDays year month)

/-- The calendar date of a day number: year, month, day. -/
def dateOfDay (n : Nat) : Nat × Nat × Nat :=
  let cycle := n / 1461
  let r := n % 1461
  let yearIn := if r < 366 then 0 else 1 + (r - 366) / 365
  let dayIn := if r < 366 then r else (r - 366) % 365
  let year := 2000 + 4 * cycle + yearIn
  let md := monthDayOf year 11 1 dayIn
  (year, md.1, md.2)

/-- The minute of the day: hour × 60 + minute (R69, R168). -/
def DateTime.minuteOfDay (d : DateTime) : Nat := d.hour * 60 + d.minute

/-- A date-time in whole minutes since 2000-01-01 00:00; the seconds are not used (R172). -/
def DateTime.minutes (d : DateTime) : Nat := dayNumber d.year d.month d.day * 1440 + d.minuteOfDay

/-- The computed service day of a date-time (R168); −1 is taken as 0. -/
def serviceDay (d : DateTime) (boundary : Nat) : Nat :=
  dayNumber d.year d.month d.day - (if d.minuteOfDay < boundary then 1 else 0)

/-- The last date-time of the range (R167). -/
def DateTime.last : DateTime := { year := 2099, month := 12, day := 31, hour := 23, minute := 59, second := 59 }

/-- The next calendar date at 00:00:00. -/
def DateTime.nextDay (d : DateTime) : DateTime :=
  if d.day < monthDays d.year d.month then { d with day := d.day + 1, hour := 0, minute := 0, second := 0 }
  else if d.month < 12 then { d with month := d.month + 1, day := 1, hour := 0, minute := 0, second := 0 }
  else { year := d.year + 1, month := 1, day := 1, hour := 0, minute := 0, second := 0 }

/-- The date-time one second later; the last one stays (R167). -/
def DateTime.advance (d : DateTime) : DateTime :=
  if d = DateTime.last then d
  else if d.second < 59 then { d with second := d.second + 1 }
  else if d.minute < 59 then { d with minute := d.minute + 1, second := 0 }
  else if d.hour < 23 then { d with hour := d.hour + 1, minute := 0, second := 0 }
  else d.nextDay

/-- The date-time after a number of elapsed seconds (R167). -/
def DateTime.advanceBy (d : DateTime) : Nat → DateTime
  | 0 => d
  | n + 1 => (d.advanceBy n).advance

end Sys2Proof.Machine
end

