-- ==== Sys2Proof/Machine/Tariff.lean ====
section
/-! DEFINITION. The Tariff Unit's computations (chapter 4): sale and top-up prices, validation of a bank,
and the hand-over of the ACTIVE state at a switch. -/

namespace Sys2Proof.Machine

/-- A price answer (4.4): a price record, or a refusal with a message code. -/
inductive PriceAnswer
  | price (record : PriceRecord)
  | refused (message : Message)
  deriving DecidableEq, Repr

/-- The answer's due, if it is a price. -/
def PriceAnswer.due : PriceAnswer → Option Nat
  | .price p => some p.due
  | .refused _ => none

def ClassSet.has (c : ClassSet) : RiderClass → Bool
  | .adult => c.adult
  | .child => c.child
  | .senior => c.senior
  | .concession => c.concession

/-- A product's carriers include the carrier requested (R67 check 2). -/
def Carriers.include (c : Carriers) (r : Carrier) : Bool :=
  match c, r with
  | .both, _ => true
  | .paper, .paper => true
  | .card, .card => true
  | _, _ => false

/-- The valid product entry of a bank that holds a code (R67). -/
def Bank.findProduct (b : Bank) (code : Nat) : Option Product :=
  (b.products.toList.filterMap id).find? (fun p => decide (p.code = code))

/-- The day type of a service day (R68): a holiday of the bank, else by the weekday; day 0 was a Saturday. -/
def dayTypeOf (b : Bank) (n : Nat) : DayType :=
  if some n ∈ b.holidays.toList then .holiday
  else match (n + 5) % 7 with
    | 5 => .saturday
    | 6 => .sunday
    | _ => .weekday

def DayType.index : DayType → Fin 4
  | .weekday => 0
  | .saturday => 1
  | .sunday => 2
  | .holiday => 3

/-- The minute from the service day boundary to a minute of the day (R69). -/
def bandMinute (minuteOfDay boundary : Nat) : Nat :=
  if minuteOfDay < boundary then minuteOfDay + 1440 - boundary else minuteOfDay - boundary

/-- The band of a plan at a minute: the last whose start is at or below it (R69). -/
def bandOf (plan : List Band) (m : Nat) : Option Band := (plan.filter (fun b => decide (b.start ≤ m))).getLast?

/-- A per-mille factor applied, rounding half up (R69). -/
def bandedFare (base factor : Nat) : Nat := (base * factor + 500) / 1000

/-- A percent taken off, rounding half up (R70). -/
def netFare (banded percent : Nat) : Nat := banded - (banded * percent + 50) / 100

/-- The line amount rounded to the step, held at or below max sale (R71). -/
def roundDue (line step maxSale : Nat) : Nat :=
  let r := line % step
  if step ≤ 2 * r then
    if maxSale < line - r + step then maxSale / step * step else line - r + step
  else line - r

/-- The snapshot of a product entry (Table 4-6). -/
def Product.snapshot (p : Product) : Snapshot :=
  { code := p.code, name := p.name, kind := p.kind, days := p.days, carriers := p.carriers, template := p.template }

/-- The chain of R67 to R71 on one bank, at a service day and a band minute. A validated bank has its
header and every plan from minute 0; a bank that lacks them answers NOT_OFFERED (log entry 10). -/
def Bank.salePrice (b : Bank) (i : BankId) (day minute : Nat) (code zones : Nat) (cls : RiderClass)
    (quantity : Nat) (carrier : Carrier) : PriceAnswer :=
  match b.findProduct code with
  | none => .refused .notOffered
  | some p =>
    if !p.carriers.include carrier then .refused .notOffered
    else if !p.classes.has cls then .refused .notOffered
    else match (if 1 ≤ zones ∧ zones ≤ 8 then (b.fares[p.fareRow]).getD (zones - 1) none else none) with
      | none => .refused .notOffered
      | some base =>
        if ¬(1 ≤ quantity ∧ quantity ≤ 9 ∧ quantity ≤ p.maxQuantity) then .refused .qtyLimit
        else
          let dt := dayTypeOf b day
          match b.header, (b.plans[dt.index]).bind (fun plan => bandOf plan minute) with
          | some h, some band =>
            let factor := (b.bands[band.cls]).getD p.bandGroup.val 0
            let percent := (b.classes[(⟨cls.code, by cases cls <;> decide⟩ : Fin 4)]).getD p.discountGroup.val 0
            let line := netFare (bandedFare base factor) percent * quantity
            if h.maxSale < line then .refused .overLimit
            else .price { due := roundDue line h.step h.maxSale, bank := i, detail := .sale p.snapshot dt band.cls }
          | _, _ => .refused .notOffered

/-- A sale price request (R66): the ACTIVE bank, the held service day and the clock's time of day. -/
def salePrice (s : State) (code zones : Nat) (cls : RiderClass) (quantity : Nat) (carrier : Carrier) : PriceAnswer :=
  match s.tariff.active with
  | none => .refused .notOffered
  | some i =>
    (s.tariff.bank i).salePrice i s.clock.heldDay
      (bandMinute s.clock.dateTime.minuteOfDay s.settings.boundary) code zones cls quantity carrier

/-- A top-up amount a header offers: one of its denominations, or a multiple of 100 within its span (R72). -/
def Header.offers (h : Header) (amount : Nat) : Bool :=
  decide (amount ≠ 0 ∧ amount ∈ h.denominations) ||
    decide (amount % 100 = 0 ∧ h.topupMin ≤ amount ∧ amount ≤ h.topupMax)

/-- A top-up price request (R72). -/
def topupPrice (s : State) (amount balance : Nat) : PriceAnswer :=
  match s.tariff.active, s.activeHeader with
  | some i, some h =>
    if !h.offers amount then .refused .amountInvalid
    else if h.cardMax < balance + amount then .refused .overBalance
    else .price { due := amount + h.fee, bank := i, detail := .topup amount h.fee }
  | _, _ => .refused .notOffered

/-! ### Validation (R63, Table 4-5) -/

/-- A template that holds at least one line record. -/
def State.templateHasLine (s : State) (t : Fin 16) : Bool := (s.templates[t]).toList.any (fun r => r.isSome)

/-- Checks 1–4: the table code and index of the first that fails. -/
def checkHeader (b : Bank) : Option (Nat × Nat) :=
  match b.header with
  | none => some (7, 0)
  | some h =>
    if h.maxSale < h.step then some (7, 0)
    else if h.fee % h.step ≠ 0 then some (7, 0)
    else if h.topupMax < h.topupMin then some (7, 0)
    else none

/-- Checks 5 and 6 of one product. -/
def productFails (s : State) (p : Product) : Bool :=
  decide (p.kind = .pass) &&
    ((p.carriers.include .card && decide (p.maxQuantity ≠ 1)) ||
     (p.carriers.include .paper && !s.templateHasLine p.template))

/-- The first entry of an indexed list that fails, with its index. -/
def firstFailing {α : Type} (fails : α → Bool) : Nat → List α → Option Nat
  | _, [] => none
  | i, x :: xs => if fails x then some i else firstFailing fails (i + 1) xs

/-- Checks 7 and 8 of one day plan. -/
def planFails (plan : Option (List Band)) : Bool :=
  match plan with
  | some (b :: _) => decide (b.start ≠ 0)
  | _ => true

/-- Check 9: the first holiday entry, in index order, not above the previous non-empty one. -/
def checkHolidays : Nat → Option Nat → List (Option Nat) → Option Nat
  | _, _, [] => none
  | i, prev, none :: xs => checkHolidays (i + 1) prev xs
  | i, none, some n :: xs => checkHolidays (i + 1) (some n) xs
  | i, some p, some n :: xs => if p < n then checkHolidays (i + 1) (some n) xs else some i

/-- Validation of a bank: none if it passes, else the table code and index of the first failing check. -/
def validateBank (s : State) (b : Bank) : Option (Nat × Nat) :=
  match checkHeader b with
  | some e => some e
  | none =>
    match firstFailing (fun p => match p with | some p => productFails s p | none => false) 0 b.products.toList with
    | some i => some (8, i)
    | none =>
      match firstFailing planFails 0 b.plans.toList with
      | some i => some (11, i)
      | none => (checkHolidays 0 none b.holidays.toList).map (fun i => (13, i))

/-- Steps 1–3 of a switch (R64): the former ACTIVE bank becomes VALID, the named bank ACTIVE, the scheduled
switch none. -/
def Tariff.handOver (t : Tariff) (i : BankId) : Tariff :=
  let valid (b : Bank) : Bank := if b.state = .active then { b with state := .valid } else b
  let t1 := { t with bankA := valid t.bankA, bankB := valid t.bankB }
  { t1.setBank i { t1.bank i with state := .active } with switch := none }

end Sys2Proof.Machine
end

