-- ==== Sys2Proof/Machine/Change.lean ====
section
/-! DEFINITION. The Change Unit (sections 6.1 and 6.2): change-making on a view of a kiosk's tubes, the
exact-change indicator, and the making of a bank switch, which gives it a bank notice. -/

namespace Sys2Proof.Machine

/-- Placing a participating tube in payout order: descending value; a tube placed later stands behind the
tubes of the same value (R102). -/
def insertPay (e : PayEntry) : List PayEntry → List PayEntry
  | [] => [e]
  | x :: xs => if x.value < e.value then e :: x :: xs else x :: insertPay e xs

/-- A tube's part in a computation: PAYABLE, with a coin type, a count above 0 and a value (R102). -/
def participant (value : CoinType → Option Nat) (tubes : Vector Tube 6) (n : TubeNo) : Option PayEntry :=
  let t := tubes[n]
  if t.state = .payable ∧ 0 < t.count then
    (t.coinType.bind value).map (fun v => { tube := n, count := t.count, value := v })
  else none

/-- The participating tubes in payout order, with their counts (R102). -/
def participants (value : CoinType → Option Nat) (tubes : Vector Tube 6) : List PayEntry :=
  (allTubes.filterMap (participant value tubes)).foldl (fun l e => insertPay e l) []

/-- The greedy fill of a remainder: the counts taken, zeros among them, and the remainder left (R103). -/
def greedyFill : Nat → List PayEntry → List PayEntry × Nat
  | x, [] => ([], x)
  | x, t :: ts =>
    let n := min t.count (x / t.value)
    let r := greedyFill (x - n * t.value) ts
    ({ t with count := n } :: r.1, r.2)

/-- The retry passes over the tubes and their greedy counts, first position first (R104): the counts of the
first retry that succeeds. -/
def retryFill : Nat → List PayEntry → List PayEntry → Option (List PayEntry)
  | x, t :: ts, g :: gs =>
    let r := greedyFill (x - (g.count - 1) * t.value) ts
    if 0 < g.count ∧ r.2 = 0 then some ({ g with count := g.count - 1 } :: r.1)
    else (retryFill (x - g.count * t.value) ts gs).map (g :: ·)
  | _, _, _ => none

/-- The answer to a change computation (R105). -/
structure ChangeAnswer where
  list : List PayEntry
  paid : Nat
  shortfall : Nat
  makeable : Bool
  deriving DecidableEq, Repr

/-- The entries whose count is above 0 (R105). -/
def payList (l : List PayEntry) : List PayEntry := l.filter (fun e => decide (0 < e.count))

/-- A change computation for an amount (R103–R105). -/
def makeChange (x : Nat) (parts : List PayEntry) : ChangeAnswer :=
  let g := greedyFill x parts
  if g.2 = 0 then { list := payList g.1, paid := x, shortfall := 0, makeable := true }
  else
    match retryFill x parts g.1 with
    | some l => { list := payList l, paid := x, shortfall := 0, makeable := true }
    | none => { list := payList g.1, paid := x - g.2, shortfall := g.2, makeable := false }

/-- The computation on the live view of a kiosk's tubes (R102). -/
def liveChange (k : Kiosk) (x : Nat) (s : State) : ChangeAnswer :=
  makeChange x (participants s.coinValue (s.cash k).tubes)

/-- The overpay view: 1 added to the count of the tube chosen as the route (R26, R102). -/
def overpayTubes (tubes : Vector Tube 6) (route : Dest) : Vector Tube 6 :=
  match route with
  | .tube n => tubes.set n { tubes[n] with count := (tubes[n]).count + 1 }
  | _ => tubes

/-- The largest value among the valid entries of use ACCEPT; 0 when there is none (R106). -/
def acceptMax (coins : Vector (Option CoinEntry) 16) : Nat :=
  coins.toList.foldl (fun m e => match e with | some e => if e.use = .accept then max m e.value else m | none => m) 0

/-- The exact-change indicator's value for a kiosk (R106). -/
def indicatorOf (k : Kiosk) (s : State) : Bool :=
  match s.activeHeader with
  | none => false
  | some h =>
    let parts := participants s.coinValue (s.cash k).tubes
    (List.range ((acceptMax s.coins - h.step) / h.step)).any (fun m => !(makeChange ((m + 1) * h.step) parts).makeable)

/-- The Change Unit recomputes a kiosk's indicator and gives it to the Session Engine (R107). -/
def recompute (k : Kiosk) (s : State) : State := putDisplay k { s.disp k with indicator := indicatorOf k s } s

/-- Every kiosk is recomputed (R107). -/
def recomputeAll (s : State) : State := allKiosks.foldl (fun t k => recompute k t) s

/-- A switch is made (R64). -/
def makeSwitch (i : BankId) (s : State) : State :=
  recomputeAll (raise .bankSwitched none { s with tariff := s.tariff.handOver i })

end Sys2Proof.Machine
end

