-- ==== Sys2Proof/Machine/Clock.lean ====
section
/-! DEFINITION. The Depot Clock (chapter 10): the day roll, the switch minute, the clock's second and the
setting of the clock. -/

namespace Sys2Proof.Machine

/-- The computed service day of the clock (R168). -/
def computedDay (s : State) : Nat := serviceDay s.clock.dateTime s.settings.boundary

/-- A day roll to a service day (R170). -/
def dayRoll (n : Nat) (s : State) : State :=
  clearDaily (clearOffline (raise .dayRolled none { s with clock := { s.clock with heldDay := n } }))

/-- The day roll is judged (R168). -/
def judgeRoll (s : State) : State := if s.clock.heldDay < computedDay s then dayRoll (computedDay s) s else s

/-- The switch minute is judged (R172). -/
def judgeSwitch (s : State) : State :=
  match s.tariff.switch with
  | none => s
  | some w => if w.minute.minutes ≤ s.clock.dateTime.minutes then makeSwitch w.bank s else s

/-- One elapsed second (R167, R168, R172). -/
def clockTick (s : State) : State :=
  match s.clock.state with
  | .invalid => s
  | .valid =>
    let d := s.clock.dateTime.advance
    let s1 := judgeRoll { s with clock := { s.clock with dateTime := d } }
    if d.minutes = s.clock.dateTime.minutes then s1 else judgeSwitch s1

/-- The date-time becomes `d` while the clock is VALID: the roll and the switch are judged with it, in that order (R168,
R172). -/
def clockTo (d : DateTime) (s : State) : State := judgeSwitch (judgeRoll { s with clock := { s.clock with dateTime := d } })

/-- A CLOCK-SET that is taken (R169, R172). -/
def setClock (d : DateTime) (s : State) : State :=
  match s.clock.state with
  | .invalid =>
    judgeSwitch { s with clock := { dateTime := d, state := .valid, heldDay := serviceDay d s.settings.boundary } }
  | .valid => clockTo d s

/-- The seconds of a warm restart, acted on at its end (R167, R173). -/
def clockAfterRestart (seconds : Nat) (s : State) : State :=
  match s.clock.state with
  | .invalid => s
  | .valid => clockTo (s.clock.dateTime.advanceBy seconds) s

end Sys2Proof.Machine
end

