-- ==== Sys2Proof/Machine/Operands.lean ====
section
/-! DEFINITION. The forms in which the part sends what it holds: the codes of its enumerations (R190), the
payloads of its commands (Table 12-5), its poll frames (Table 12-2), the units of its tables as read back
(Table 12-7), the journal record (Table 12-8) and the data of its tabled replies (R192). -/

namespace Sys2Proof.Machine

/-- One byte (R190, Numbers). -/
def byte1 (n : Nat) : List Byte := beBytes 1 n
/-- A flag, mark or yes-or-no field (R192). -/
def flagByte (b : Bool) : List Byte := byte1 (if b then 1 else 0)
/-- A value of `w` bytes that may be absent: all ones when it is (R190, Absent values). -/
def optBytes (w : Nat) : Option Nat → List Byte
  | some n => beBytes w n
  | none => List.replicate w 0xFF#8
/-- Bytes filled with zeros to a width; longer text is cut to it. -/
def padTo (w : Nat) (l : List Byte) : List Byte := (l ++ List.replicate w 0).take w

/-! ### Codes (R190, Enumerations): the position in the list that defines the field -/

def LinkState.code : LinkState → Nat
  | .unused => 0 | .absent => 1 | .present => 2
def Reason.code : Reason → Nat
  | .none => 0 | .unknown => 1 | .ambiguous => 2 | .refused => 3 | .inletBlocked => 4 | .notPaying => 5
  | .noChange => 6 | .tableChanged => 7 | .cancelled => 8 | .secondCoin => 9
def InletState.code : InletState → Nat
  | .opened => 0 | .blocked => 1
/-- The payload of an INLET command: BLOCK, OPEN (Table 12-5). -/
def InletState.command : InletState → Nat
  | .blocked => 0 | .opened => 1
def InletMode.code : InletMode → Nat
  | .latched => 0 | .following => 1
def EscrowAction.code : EscrowAction → Nat
  | .ret => 0 | .drop => 1
def Message.code : Message → Nat
  | .ready => 0 | .closed => 1 | .outOfService => 2 | .select => 3 | .price => 4 | .insertCard => 5
  | .priceChanged => 6 | .notOffered => 7 | .qtyLimit => 8 | .overLimit => 9 | .amountInvalid => 10
  | .overBalance => 11 | .journalFull => 12 | .noPrinter => 13 | .passPresent => 14 | .cardBlocked => 15
  | .denied => 16 | .offlineLimit => 17 | .offlineTableFull => 18 | .floatExhausted => 19 | .authorising => 20
  | .insertCoins => 21 | .writingCard => 22 | .change => 23 | .refund => 24 | .timedOut => 25 | .cancelled => 26
  | .failed => 27 | .thankYou => 28
def SessState.code : SessState → Nat
  | .idle => 0 | .selecting => 1 | .authorising => 2 | .paying => 3 | .writing => 4 | .dispensing => 5
  | .cancelling => 6
def SessKind.code : SessKind → Nat
  | .paperSale => 0 | .cardSale => 1 | .topup => 2
def WriteState.code : WriteState → Nat
  | .none => 0 | .issued => 1 | .done => 2 | .failed => 3 | .unknown => 4
def SessOutcome.code : SessOutcome → Nat
  | .completed => 0 | .cancelled => 1 | .failed => 2 | .stranded => 3
def RecordKind.code : RecordKind → Nat
  | .sale => 0 | .topup => 1 | .cancel => 2 | .stranded => 3
def ReceiptState.code : ReceiptState → Nat
  | .queued => 0 | .skipped => 1 | .notPrinted => 2 | .notWanted => 3
def AuthMode.code : AuthMode → Nat
  | .online => 0 | .offline => 1
def JobState.code : JobState → Nat
  | .queued => 0 | .streaming => 1 | .suspended => 2
def TubeState.code : TubeState → Nat
  | .payable => 0 | .suspect => 1
def BankState.code : BankState → Nat
  | .empty => 0 | .editing => 1 | .valid => 2 | .active => 3
def CoinUse.code : CoinUse → Nat
  | .accept => 0 | .refuse => 1
def ClockState.code : ClockState → Nat
  | .invalid => 0 | .valid => 1
def RestartCause.code : RestartCause → Nat
  | .cold => 0 | .pin => 1 | .command => 2
def PartMode.code : PartMode → Nat
  | .loading => 0 | .selling => 1 | .suspended => 2
def DepotRate.code : DepotRate → Nat
  | .r9600 => 0 | .r19200 => 1 | .r38400 => 2 | .r57600 => 3 | .r115200 => 4
def LoopRate.code : LoopRate → Nat
  | .r38400 => 0 | .r115200 => 1
def DoorEdge.code : DoorEdge → Nat
  | .opening => 0 | .closing => 1 | .both => 2
def ProductKind.code : ProductKind → Nat
  | .single => 0 | .pass => 1
def Carriers.code : Carriers → Nat
  | .paper => 0 | .card => 1 | .both => 2
def Field.code : Field → Nat
  | .saleTime => 0 | .kiosk => 1 | .serial => 2 | .productName => 3 | .zones => 4 | .cls => 5 | .qty => 6
  | .due => 7 | .paid => 8 | .change => 9 | .voucher => 10 | .cardNo => 11 | .newBalance => 12
  | .topupStatus => 13 | .validFrom => 14 | .validUntil => 15
def Format.code : Format → Nat
  | .money => 0 | .number => 1 | .date => 2 | .time => 3 | .text => 4
def Condition.code : Condition → Nat
  | .always => 0 | .ifCard => 1 | .ifPaperPass => 2 | .ifVoucher => 3 | .ifUncertain => 4 | .ifRefund => 5
/-- A bank letter (R190): the character A or B. -/
def BankId.letter : BankId → Byte
  | .a => 0x41#8 | .b => 0x42#8

/-- The route or destination and its tube byte, 0 unless TUBE (Table 12-5, GATE). -/
def destBytes : Dest → List Byte
  | .escrow => [0, 0]
  | .tube t => 1 :: byte1 t.val
  | .cashbox => [2, 0]
  | .ret => [3, 0]

/-! ### Commands (Table 12-5) -/

/-- The commanded count of a tube in a payout order, 0 for a tube not in it. -/
def commanded (order : List (TubeNo × Nat)) (t : TubeNo) : Nat :=
  match order.find? (fun e => decide (e.1 = t)) with
  | some e => e.2
  | none => 0

/-- The payload of a SHOW (Table 12-5). -/
def showBytes (d : Display) : List Byte :=
  optBytes 3 d.due ++ beBytes 3 d.credit ++ beBytes 3 d.remaining ++ byte1 d.message.code ++ flagByte d.indicator ++
    byte1 d.offered.length ++ d.offered.flatMap (beBytes 2)

/-- The payload of a CARDWRITE (Table 12-5); pass action KEEP 0, WRITE 1. -/
def cardWriteBytes (w : CardWrite) : List Byte :=
  beBytes 4 w.card ++ beBytes 2 w.expected ++ beBytes 2 w.counter ++ beBytes 3 w.balance ++
    (match w.pass with
     | none => List.replicate 8 0
     | some p => 1 :: (beBytes 2 p.product ++ byte1 p.zones ++ beBytes 2 p.validFrom ++ beBytes 2 p.validUntil)) ++
    (match w.single with
     | none => List.replicate 7 0
     | some t => 1 :: (beBytes 2 t.product ++ byte1 t.zones ++ byte1 t.quantity ++ beBytes 2 t.day))

/-- The kind code of a command (Table 12-3). -/
def CmdKind.frameKind : CmdKind → Byte
  | .gate => 0x11 | .pay => 0x12 | .escrow => 0x13 | .show => 0x14 | .cardWrite => 0x15 | .print => 0x16 | .inlet => 0x17

/-- The payload of a command (Table 12-5). -/
def Cmd.payload : Cmd → List Byte
  | .gate route reason => destBytes route ++ byte1 reason.code
  | .pay order => allTubes.flatMap (fun t => byte1 (commanded order t))
  | .escrow action n dests => byte1 action.code ++ byte1 n ++ dests.flatMap destBytes
  | .show d => showBytes d
  | .cardWrite w => cardWriteBytes w
  | .print lines cut => flagByte cut ++ byte1 lines.length ++ lines.flatMap (fun l => byte1 l.length ++ l)
  | .inlet i => byte1 i.command

/-- The control byte of a frame to a kiosk (Table 12-2): T, STATUS-WANTED, RESYNC. -/
def pollControl (t statusWanted resync : Bool) : Byte :=
  BitVec.ofNat 8 ((if t then 1 else 0) + (if statusWanted then 2 else 0) + (if resync then 4 else 0))

/-- A frame to a kiosk (R4, Table 12-1). -/
def kioskFrame (k : Kiosk) (kind control : Byte) (payload : List Byte) : List Byte :=
  Frame.bytes { addr := BitVec.ofNat 8 k.val, kind := kind, control := control, payload := payload }

/-! ### Table units as read back (Table 12-7, R192) -/

def Calib.bytes (c : Calib) : List Byte := beBytes 2 c.offset ++ byte1 c.gain

def CoinEntry.bytes : Option CoinEntry → List Byte
  | none => List.replicate 10 0
  | some e => 1 :: (beBytes 2 e.value ++ byte1 e.low1 ++ byte1 e.high1 ++ byte1 e.low2 ++ byte1 e.high2 ++
      byte1 e.low3 ++ byte1 e.high3 ++ byte1 e.use.code)

/-- A tube record as TABLE-READ gives it: the unit as it stands, state and low flag (R42, R181, R192). -/
def Tube.bytes (t : Tube) : List Byte :=
  (match t.coinType with
   | none => [0xFF#8]
   | some c => byte1 c.val) ++
    byte1 t.capacity ++ byte1 t.count ++ byte1 t.lowMark ++ byte1 t.state.code ++ flagByte t.lowFlag

/-- The seven settings in the order of Table 11-5, two bytes each. -/
def Settings.bytes (x : Settings) : List Byte :=
  beBytes 2 x.boundary ++ beBytes 2 x.inactivity ++ beBytes 2 x.authorisation ++ beBytes 2 x.supervision ++
    beBytes 2 x.saleTemplate.val ++ beBytes 2 x.topupTemplate.val ++ beBytes 2 x.refundTemplate.val

/-- The kind code and the body of a line record (Table 12-7, TEMPLATE). -/
def LineBody.bytes : LineBody → List Byte
  | .text chars => 1 :: padTo 32 chars
  | .field label f fmt => 2 :: padTo 32 (padTo 16 label ++ byte1 f.code ++ byte1 fmt.code)
  | .rule sep => 3 :: padTo 32 [sep]
  | .feed n => 4 :: padTo 32 (byte1 n)
  | .ref (.template t) => 5 :: padTo 32 (byte1 t.val)
  | .ref .product => 5 :: padTo 32 [0xFF#8]

def LineRecord.bytes : Option LineRecord → List Byte
  | none => List.replicate 34 0
  | some r =>
    match r.body.bytes with
    | kind :: body => kind :: (byte1 r.condition.code ++ body)
    | [] => List.replicate 34 0

def Header.bytes : Option Header → List Byte
  | none => List.replicate 32 0
  | some h => 1 :: (byte1 h.step ++ beBytes 3 h.maxSale ++ beBytes 2 h.fee ++ beBytes 2 h.topupMin ++ beBytes 2 h.topupMax ++
      beBytes 3 h.cardMax ++ beBytes 2 h.offlineLimit ++ h.denominations.flatMap (beBytes 2))

/-- A class-allowed set as a bit map (R190, Sets). -/
def ClassSet.bits (c : ClassSet) : Nat :=
  (if c.adult then 1 else 0) + (if c.child then 2 else 0) + (if c.senior then 4 else 0) + (if c.concession then 8 else 0)

def Product.bytes : Option Product → List Byte
  | none => List.replicate 32 0
  | some p => 1 :: (beBytes 2 p.code ++ padTo 20 p.name ++ byte1 p.kind.code ++ byte1 p.days ++ byte1 p.carriers.code ++
      byte1 p.fareRow.val ++ byte1 p.bandGroup.val ++ byte1 p.discountGroup.val ++ byte1 p.classes.bits ++
      byte1 p.template.val ++ byte1 p.maxQuantity)

def fareBytes (cells : List (Option Nat)) : List Byte := cells.flatMap (optBytes 2)

def planBytes : Option (List Band) → List Byte
  | none => List.replicate 19 0
  | some l => byte1 l.length ++ padTo 18 (l.flatMap (fun b => beBytes 2 b.start ++ byte1 b.cls.val))

def holidayBytes : Option Nat → List Byte
  | none => [0, 0, 0]
  | some n => 1 :: beBytes 2 n

/-! ### Date-times, records and replies -/

/-- A date-time in six bytes (R190). -/
def DateTime.bytes (d : DateTime) : List Byte :=
  byte1 (d.year - 2000) ++ byte1 d.month ++ byte1 d.day ++ byte1 d.hour ++ byte1 d.minute ++ byte1 d.second

/-- An effective minute in five bytes (R190). -/
def DateTime.minuteBytes (d : DateTime) : List Byte := d.bytes.take 5

/-- An optional part of a record: its bit and its bytes. -/
def partBytes {α : Type} (f : α → List Byte) : Option α → List Byte
  | none => []
  | some x => f x

/-- The bytes of a journal record (Table 12-8). -/
def Record.bytes (r : Record) : List Byte :=
  byte1 r.kind.code ++ byte1 r.outcome.code ++ byte1 r.sessKind.code ++ byte1 r.kiosk.val ++ beBytes 2 r.serial ++
    r.closeTime.bytes ++ beBytes 2 r.serviceDay ++ [r.bank.letter] ++ beBytes 3 r.due ++ beBytes 3 r.credit ++
    beBytes 3 r.retained ++ beBytes 3 r.paidBack ++ beBytes 3 r.voucher ++ beBytes 3 r.stranded ++
    byte1 r.receipt.code ++
    byte1 ((if r.selection.isSome then 1 else 0) + (if r.topup.isSome then 2 else 0) + (if r.validity.isSome then 4 else 0) +
      (if r.card.isSome then 8 else 0) + (if r.cardWrite.isSome then 16 else 0) + (if r.authMode.isSome then 32 else 0)) ++
    byte1 r.coins.length ++
    r.coins.flatMap (fun c => byte1 c.1.val ++ byte1 c.2) ++
    partBytes (fun x : RecSelection => beBytes 2 x.product ++ byte1 x.zones ++ byte1 x.cls.code ++ byte1 x.quantity) r.selection ++
    partBytes (fun x : Nat × Nat => beBytes 2 x.1 ++ beBytes 2 x.2) r.topup ++
    partBytes (fun x : Nat × Nat => beBytes 2 x.1 ++ beBytes 2 x.2) r.validity ++
    partBytes (fun x : RecCard => beBytes 4 x.number ++ beBytes 3 x.balance ++ byte1 x.write.code) r.card ++
    partBytes (fun x : Nat × Nat => beBytes 3 x.1 ++ beBytes 2 x.2) r.cardWrite ++
    partBytes (fun x : AuthMode => byte1 x.code) r.authMode

/-- An entry of an AUTH-FETCH reply (R192). -/
def AuthEntry.bytes (e : AuthEntry) : List Byte :=
  byte1 e.kiosk.val ++ beBytes 2 e.serial ++ byte1 e.attempt ++ beBytes 4 e.card ++ byte1 e.cls.code ++
    beBytes 3 e.balance ++ beBytes 2 e.amount ++ flagByte e.fetched

/-- A list of flags as a bit map, bit 0 first (R190, Sets). -/
def bitMap : List Bool → Nat
  | [] => 0
  | b :: bs => (if b then 1 else 0) + 2 * bitMap bs

/-- The pending set in four bytes (R192). -/
def pendingBytes (s : State) : List Byte := beBytes 4 (bitMap (allEvents.map (fun e => (s.depot.events[e.no]).on)))

/-- The mask in four bytes: a bit is set when the kind is unmasked (R192). -/
def maskBytes (s : State) : List Byte := beBytes 4 (bitMap (allEvents.map (fun e => s.depot.unmasked[e.no])))

/-- The rate in use: that of the hunt step in SEARCH (Table 12-9). -/
def DepotLink.rate : DepotLink → DepotRate
  | .search r => r
  | .online r => r
  | .hold r => r

/-- The data of a STATUS-READ reply (R180, Table 12-9). -/
def statusData (s : State) : List Byte :=
  byte1 s.depot.cause.code ++ byte1 s.depot.mode.code ++ byte1 s.depot.station.val ++ byte1 s.depot.link.rate.code ++
    s.clock.dateTime.bytes ++ byte1 s.clock.state.code ++ beBytes 2 s.clock.heldDay ++ beBytes 2 s.settings.boundary ++
    byte1 s.tariff.bankA.state.code ++ byte1 s.tariff.bankB.state.code ++
    (match s.tariff.switch with
     | none => 0xFF#8 :: List.replicate 5 0
     | some w => w.bank.letter :: w.minute.minuteBytes) ++
    beBytes 2 s.journal.records.length ++ byte1 s.journal.reservations ++
    beBytes 2 s.cards.stopList.length ++ beBytes 3 s.cards.floatSet ++ beBytes 3 s.cards.floatRemaining ++
    beBytes 3 s.cards.delivered ++ beBytes 3 s.heldTotal ++
    byte1 s.cards.offline.length ++ byte1 s.cards.authList.length ++
    allKiosks.flatMap (fun k => byte1 (s.link k).state.code)

/-- The service state and its causes (R76, R182). -/
def Service.causeBits (v : Service) : Nat := (if v.service then 1 else 0) + (if v.server then 2 else 0)
/-- The inlet causes as a bit map, in the order of Table 3-3. -/
def Inlet.causeBits (i : Inlet) : Nat :=
  (if i.cashboxFull then 1 else 0) + (if i.rejectRun then 2 else 0) + (if i.server then 4 else 0)

/-- The print queue fields of a KIOSK-READ reply (R155, Table 12-10). -/
def jobBytes (jobs : List Job) : List Byte :=
  byte1 jobs.length ++
    match jobs.head? with
    | none => List.replicate 7 0
    | some j => beBytes 2 j.serial ++ byte1 j.state.code ++ byte1 j.lines.length ++ byte1 j.taken ++ byte1 j.inFlight ++
        byte1 ((if j.nestLimit then 1 else 0) + (if j.truncated then 2 else 0) + (if j.resumed then 4 else 0))

/-- The display record in a KIOSK-READ reply: eight offered amounts, zero beyond the first k (Table 12-10). -/
def displayBytes (d : Display) : List Byte :=
  optBytes 3 d.due ++ beBytes 3 d.credit ++ beBytes 3 d.remaining ++ byte1 d.message.code ++ flagByte d.indicator ++
    byte1 d.offered.length ++ padTo 16 (d.offered.flatMap (beBytes 2))

/-- The data of a KIOSK-READ reply (R183, Table 12-10). -/
def kioskData (k : Kiosk) (s : State) : List Byte :=
  let l := s.link k
  let ss := s.sess k
  let c := s.cash k
  byte1 l.state.code ++ byte1 l.missCount ++ byte1 l.queue.length ++ byte1 l.door.value.code ++
    byte1 l.cashbox.value.code ++ byte1 l.paper.value.code ++ byte1 l.service.value.code ++ flagByte l.doorReport ++
    byte1 ss.state.code ++ beBytes 2 ss.serial ++ flagByte (s.svc k).out ++ byte1 (s.svc k).causeBits ++
    displayBytes (s.disp k) ++
    flagByte (s.coin k).flight.isSome ++ byte1 (s.coin k).returnsOwed ++
    byte1 c.escrow.length ++ beBytes 2 (escrowSum c.escrow) ++ flagByte c.strandedMark ++ byte1 c.inlet.state.code ++
    byte1 c.inlet.causeBits ++ byte1 c.inlet.mode.code ++ flagByte c.inlet.reopenWaiting ++
    byte1 l.cashbox.value.code ++ beBytes 2 c.cashboxCount ++
    jobBytes (s.jobs k) ++
    beBytes 2 (s.daily k).sales ++ beBytes 4 (s.daily k).retained

/-- The data of an EVENTS-READ reply (R186, R192). -/
def eventsData (s : State) : List Byte :=
  pendingBytes s ++ allEvents.flatMap (fun e => optBytes 1 ((eventKiosk e s).map (·.val))) ++ maskBytes s

end Sys2Proof.Machine
end

