-- ==== Sys2Proof/Machine/Cash.lean ====
section
/-! DEFINITION. The Cash Unit (chapter 3): the escrow and its commands, the tube table, payout orders, the
cashbox count and the coin inlet. -/

namespace Sys2Proof.Machine

/-! ### Tubes (section 3.2) -/

/-- A function of the tube number applied to every tube. -/
def mapTubes (f : TubeNo → Tube → Tube) (v : Vector Tube 6) : Vector Tube 6 :=
  #v[f 0 v[(0 : TubeNo)], f 1 v[(1 : TubeNo)], f 2 v[(2 : TubeNo)], f 3 v[(3 : TubeNo)], f 4 v[(4 : TubeNo)], f 5 v[(5 : TubeNo)]]

/-- The low flag a tube's record asks for (R47 step 1). -/
def Tube.lowDue (t : Tube) : Bool := t.coinType.isSome && decide (t.count ≤ t.lowMark)

/-- What the Cash Unit does for a tube of kiosk `k` whose record was `old` (R47). -/
def tubeNote (k : Kiosk) (n : TubeNo) (old : Tube) (s : State) : State :=
  let t := (s.cash k).tubes[n]
  let s1 := s.updCash k (fun c => { c with tubes := c.tubes.set n { t with lowFlag := t.lowDue } })
  let s2 := if t.lowDue = true ∧ t.lowFlag = false then raise .tubeLow (some k) s1 else s1
  let s3 := if old.state = .payable ∧ t.state = .suspect then raise .tubeSuspect (some k) s2 else s2
  recompute k s3

/-- Tubes change together, then each whose count or state changed is noted, in tube order (R47; the order is
a DESIGN CHOICE, log entry 13). -/
def changeTubes (k : Kiosk) (f : TubeNo → Tube → Tube) (s : State) : State :=
  let old : Vector Tube 6 := (s.cash k).tubes
  let s1 := s.updCash k (fun c => { c with tubes := mapTubes f c.tubes })
  let new : Vector Tube 6 := (s1.cash k).tubes
  allTubes.foldl (fun t n =>
    if (old[n]).count = (new[n]).count ∧ (old[n]).state = (new[n]).state then t else tubeNote k n old[n] t) s1

/-- One tube is written (R42): its record replaced and noted. -/
def writeTube (k : Kiosk) (n : TubeNo) (t : Tube) (s : State) : State :=
  let old := (s.cash k).tubes[n]
  tubeNote k n old (s.updCash k (fun c => { c with tubes := c.tubes.set n t }))

/-- The cashbox count rises, saturating (R48). -/
def addCashbox (k : Kiosk) (n : Nat) (s : State) : State :=
  s.updCash k (fun c => { c with cashboxCount := min Config.halfMax (c.cashboxCount + n) })

/-- One coin into a tube, saturating at its capacity. -/
def Tube.addCoins (t : Tube) (n : Nat) : Tube := { t with count := max t.count (min t.capacity (t.count + n)) }

/-! ### The escrow (section 3.1) -/

/-- The escrow list is set; when its value changes, the Session Engine is given the new one (R37). -/
def setEscrow (k : Kiosk) (l : List EscrowEntry) (s : State) : State :=
  let before := escrowSum (s.cash k).escrow
  let s1 := s.updCash k (fun c => { c with escrow := l })
  if escrowSum l = before then s1 else s1.updSess k (fun x => { x with escrowValue := escrowSum l })

/-- The destinations of a DROP, entry by entry; `sent` holds the tubes already sent to (R39). -/
def dropDests (tubes : Vector Tube 6) : List TubeNo → List EscrowEntry → List Dest
  | _, [] => []
  | sent, e :: es =>
    match e.coinType.bind (tubeHolding tubes) with
    | some n =>
      if (tubes[n]).count + sent.countP (fun m => decide (m = n)) < (tubes[n]).capacity then
        .tube n :: dropDests tubes (n :: sent) es
      else .cashbox :: dropDests tubes sent es
    | none => .cashbox :: dropDests tubes sent es

/-- The escrow command over some entries, with destinations judged now (R39). -/
def buildEscrow (tubes : Vector Tube 6) (action : EscrowAction) (entries : List EscrowEntry) (origin : EscrowOrigin) : EscrowCmd :=
  { action := action, entries := entries, origin := origin,
    dests := match action with | .ret => [] | .drop => dropDests tubes [] entries }

/-- An ESCROW command is offered; if it joins, it becomes the kiosk's escrow command. -/
def offerEscrow (k : Kiosk) (action : EscrowAction) (entries : List EscrowEntry) (origin : EscrowOrigin) (s : State) :
    State × OfferResult :=
  let cmd := buildEscrow (s.cash k).tubes action entries origin
  let r := offer k (.escrow action entries.length cmd.dests) s
  match r.2 with
  | .joined => (r.1.updCash k (fun c => { c with escrowCmd := some cmd }), .joined)
  | x => (r.1, x)

/-- A request is held with its entries; a DROP joins a held DROP (R39). -/
def holdEscrow (k : Kiosk) (action : EscrowAction) (entries : List EscrowEntry) (s : State) : State :=
  s.updCash k (fun c =>
    if action = .drop ∧ c.held.any (fun r => decide (r.action = .drop)) = true then
      { c with held := c.held.map (fun r => if r.action = .drop then { r with entries := r.entries ++ entries } else r) }
    else { c with held := c.held ++ [{ action := action, entries := entries }] })

/-- The Session Engine asks for a return or a drop of the escrow (R39). The answer says whether a command was
sent or held. -/
def requestEscrow (k : Kiosk) (action : EscrowAction) (s : State) : State × Bool :=
  let c := s.cash k
  if c.escrow = [] then (s, false)
  else
    let s1 := setEscrow k [] s
    if c.held ≠ [] then (holdEscrow k action c.escrow s1, true)
    else
      match offerEscrow k action c.escrow .session s1 with
      | (s2, .joined) => (s2, true)
      | (s2, .kindFull) => (holdEscrow k action c.escrow s2, true)
      | (s2, .absent) => ((setEscrow k c.escrow s2).updCash k (fun c => { c with strandedMark := true }), false)

/-- The oldest held request is offered (R39, R40). -/
def offerHeldEscrow (k : Kiosk) (s : State) : State :=
  match (s.cash k).held with
  | [] => s
  | r :: rs =>
    match offerEscrow k r.action r.entries .session s with
    | (s1, .joined) => s1.updCash k (fun c => { c with held := rs })
    | (s1, _) => s1

/-- The carried coins of a taken DROP that go into tube `n`: those whose destination it is and whose type it
still holds (R40). -/
def dropInto (tubes : Vector Tube 6) (n : TubeNo) (l : List (EscrowEntry × Dest)) : Nat :=
  l.countP (fun p => decide (p.2 = .tube n ∧ p.1.coinType.isSome ∧ (tubes[n]).coinType = p.1.coinType))

/-- An ESCROW command is taken (R40). The answer is the value of a RETURN, for the Session Engine. -/
def escrowTaken (k : Kiosk) (s : State) : State × Option Nat :=
  match (s.cash k).escrowCmd with
  | none => (s, none)
  | some cmd =>
    let s1 : State :=
      match cmd.action with
      | .ret => s
      | .drop =>
        let l := cmd.entries.zip cmd.dests
        let tubes := (s.cash k).tubes
        let inTubes := (allTubes.map (fun n => dropInto tubes n l)).sum
        addCashbox k (l.length - inTubes) (changeTubes k (fun n t => t.addCoins (dropInto tubes n l)) s)
    let s2 := s1.updCash k (fun c =>
      { c with escrowCmd := none, strandedMark := if cmd.origin = .stranded then false else c.strandedMark })
    let told : Option Nat :=
      match cmd.action, cmd.origin with
      | .ret, .session => some (escrowSum cmd.entries)
      | _, _ => none
    (offerHeldEscrow k s2, told)

/-- The entries of an escrow command and of the held requests, in order (R37, R41). -/
def KCash.carried (c : KCash) : List EscrowEntry :=
  (match c.escrowCmd with | some cmd => cmd.entries | none => []) ++ c.held.flatMap (·.entries)

/-- The carried and held entries go back to the head of the list; the command and the requests end. -/
def restoreEscrow (k : Kiosk) (s : State) : State :=
  (setEscrow k ((s.cash k).carried ++ (s.cash k).escrow) s).updCash k (fun c => { c with escrowCmd := none, held := [] })

/-- An ESCROW command is reported not taken (R41). The answer is whether the Session Engine is told of a
RETURN not taken. -/
def escrowNotTaken (k : Kiosk) (s : State) : State × Bool :=
  match (s.cash k).escrowCmd with
  | none => (s, false)
  | some cmd =>
    ((restoreEscrow k s).updCash k (fun c => { c with strandedMark := true }),
     decide (cmd.action = .ret ∧ cmd.origin = .session))

/-- The escrow at a kiosk's absence (R41). -/
def escrowAbsence (k : Kiosk) (s : State) : State :=
  if (s.cash k).escrow = [] then s else s.updCash k (fun c => { c with strandedMark := true })

/-- The stranded escrow at a kiosk's presence (R41): one DROP over the whole list, also where a restored list holds
more than the four entries Table 12-5 counts (DESIGN CHOICE, log entry 11). -/
def escrowPresence (k : Kiosk) (s : State) : State :=
  let c := s.cash k
  if c.strandedMark = false then s
  else if c.escrow = [] then s.updCash k (fun c => { c with strandedMark := false })
  else
    match offerEscrow k .drop c.escrow .stranded s with
    | (s1, .joined) => setEscrow k [] s1
    | (s1, _) => s1

/-- The escrow at a warm restart (R37). -/
def escrowRestart (k : Kiosk) (s : State) : State :=
  (restoreEscrow k s).updCash k (fun c => { c with strandedMark := decide (c.escrow ≠ []) })

/-! ### Landings (R38, R43) -/

/-- The effect of a landing in TUBE `n` (R43). -/
def landInTube (k : Kiosk) (n : TubeNo) (type : Option CoinType) (s : State) : State :=
  match ((s.cash k).tubes[n]).coinType with
  | none => addCashbox k 1 s
  | some held =>
    if type = none ∨ type = some held then changeTubes k (fun m t => if m = n then t.addCoins 1 else t) s
    else changeTubes k (fun m t => if m = n then { t with state := .suspect } else t) s

/-- A landing is applied: its destination, the coin's type and its credited value (R38, R43). In ESCROW with more than four
entries in list and held requests, a case without a row in R38's table, the coin counts into the cashbox as with four
(DEDUCED, log entry 11). -/
def applyLanding (k : Kiosk) (dest : Dest) (type : Option CoinType) (credited : Nat) (s : State) : State :=
  match dest with
  | .escrow =>
    if (s.cash k).escrowRoom then setEscrow k ((s.cash k).escrow ++ [{ coinType := type, value := credited }]) s
    else addCashbox k 1 s
  | .tube n => landInTube k n type s
  | .cashbox => addCashbox k 1 s
  | .ret => s

/-! ### Payout orders (R44–R46) -/

/-- A payout order is registered (R44). -/
def registerOrder (k : Kiosk) (l : List PayEntry) (s : State) : State :=
  s.updCash k (fun c => { c with order := some { entries := l.map (fun e => (e.tube, e.count)), taken := false } })

/-- The take of the order's PAY is passed on (R44). -/
def orderTaken (k : Kiosk) (s : State) : State :=
  s.updCash k (fun c => { c with order := c.order.map (fun o => { o with taken := true }) })

/-- A dispensed count applied to one tube, under the order's entries if they count (R44). -/
def dispense (entries : List (TubeNo × Nat)) (n : TubeNo) (dispensed : Nat) (t : Tube) : Tube :=
  if t.coinType = none then t
  else if entries.any (fun e => decide (e.1 = n)) = true ∧ dispensed < commanded entries n then
    { t with count := 0, state := .suspect }
  else { t with count := t.count - dispensed }

/-- The Cash Unit applies a PAYREPORT (R44). -/
def applyPayReport (k : Kiosk) (counts : Vector Nat 6) (s : State) : State :=
  match (s.cash k).order with
  | some o =>
    if o.taken then
      (changeTubes k (fun n t => dispense o.entries n counts[n] t) s).updCash k (fun c => { c with order := none })
    else changeTubes k (fun n t => dispense [] n counts[n] t) s
  | none => changeTubes k (fun n t => dispense [] n counts[n] t) s

/-- A payout order is abandoned (R45): its tubes become SUSPECT and it is cleared. -/
def abandonOrder (k : Kiosk) (s : State) : State :=
  match (s.cash k).order with
  | none => s
  | some o =>
    (changeTubes k (fun n t => if o.entries.any (fun e => decide (e.1 = n)) then { t with state := .suspect } else t) s).updCash k
      (fun c => { c with order := none })

/-- A FILL is applied while the session is IDLE, and ignored otherwise (R46). -/
def applyFill (k : Kiosk) (counts : Vector Nat 6) (s : State) : State :=
  if (s.sess k).state = .idle then
    raise .serviceFill (some k)
      ((changeTubes k (fun n t =>
        if t.coinType = none then t else { t with count := min counts[n] t.capacity, state := .payable }) s).updCash k
        (fun c => { c with cashboxCount := 0 }))
  else s

/-! ### The coin inlet (section 3.4) -/

/-- The cause set of an inlet (Table 3-3). -/
def Inlet.causeSet (i : Inlet) : Bool × Bool × Bool := (i.cashboxFull, i.rejectRun, i.server)

/-- The cause set of an inlet is empty. -/
def Inlet.noCause (i : Inlet) : Bool := !(i.cashboxFull || i.rejectRun || i.server)

def State.updInlet (s : State) (k : Kiosk) (f : Inlet → Inlet) : State := s.updCash k (fun c => { c with inlet := f c.inlet })

/-- INLET is offered with the inlet state as it stands (R53). -/
def offerInlet (k : Kiosk) (s : State) : State := (offer k (.inlet (s.cash k).inlet.state) s).1

/-- A cause enters the cause set; `add` sets it (R49). -/
def addCause (k : Kiosk) (add : Inlet → Inlet) (s : State) : State :=
  match (s.cash k).inlet.state with
  | .opened =>
    raise .inletBlocked (some k) (offerInlet k (s.updInlet k (fun i => { add i with state := .blocked })))
  | .blocked => s.updInlet k (fun i => { add i with reopenWaiting := false })

/-- The inlet reopens (R52). -/
def reopen (k : Kiosk) (s : State) : State :=
  raise .inletReleased (some k) (offerInlet k (s.updInlet k (fun i => { i with state := .opened, reopenWaiting := false })))

/-- The causes are set to those of `i`; if some cause left and the set of a BLOCKED inlet is then empty,
reopening follows (R50–R52). -/
def removeCauses (k : Kiosk) (i : Inlet) (s : State) : State :=
  let old := (s.cash k).inlet
  if old.causeSet = i.causeSet then s
  else
    let s1 := s.updInlet k (fun x =>
      { x with cashboxFull := i.cashboxFull, rejectRun := i.rejectRun, server := i.server,
               runSession := if i.rejectRun then x.runSession else none })
    if i.noCause = true ∧ old.state = .blocked then
      if (s.sess k).state = .idle then reopen k s1 else s1.updInlet k (fun x => { x with reopenWaiting := true })
    else s1

/-- The filtered CASHBOX value has changed (R48). -/
def cashboxChanged (k : Kiosk) (v : CashboxIn) (s : State) : State :=
  match v with
  | .full => raiseLevel .cashboxFull (addCause k (fun i => { i with cashboxFull := true }) s)
  | .ok =>
    if (s.cash k).inlet.mode = .following then removeCauses k { (s.cash k).inlet with cashboxFull := false } s else s

/-- The Session Engine gives cause REJECT_RUN for the running session (R28, R49). -/
def rejectRunReached (k : Kiosk) (s : State) : State :=
  addCause k (fun i => { i with rejectRun := true, runSession := some (s.sess k).serial }) s

/-- The Cash Unit is told that the session has returned to IDLE (R50, R52). -/
def sessionReturned (k : Kiosk) (s : State) : State :=
  let i := (s.cash k).inlet
  let s1 :=
    if i.mode = .following ∧ i.rejectRun = true ∧ i.runSession = some (s.sess k).serial then
      removeCauses k { i with rejectRun := false } s
    else s
  if (s1.cash k).inlet.reopenWaiting = true then reopen k s1 else s1

/-- KIOSK-CONTROL BLOCK (R51). -/
def inletBlock (k : Kiosk) (s : State) : State :=
  if (s.cash k).inlet.server then s else addCause k (fun i => { i with server := true }) s

/-- Whether KIOSK-CONTROL RELEASE is refused with CAUSE_ACTIVE (R51). -/
def releaseRefused (k : Kiosk) (s : State) : Bool :=
  let i := (s.cash k).inlet
  (i.cashboxFull && decide ((s.link k).cashbox.value = .full)) || (i.rejectRun && decide ((s.sess k).state ≠ .idle))

/-- KIOSK-CONTROL RELEASE that is not refused (R51). -/
def inletRelease (k : Kiosk) (s : State) : State :=
  removeCauses k { (s.cash k).inlet with cashboxFull := false, rejectRun := false, server := false } s

/-- KIOSK-CONTROL MODE (R50). -/
def inletMode (k : Kiosk) (m : InletMode) (s : State) : State :=
  let i := (s.cash k).inlet
  if i.mode = m then s
  else
    let s1 := s.updInlet k (fun x => { x with mode := m })
    match m with
    | .latched => s1
    | .following =>
      removeCauses k
        { i with
          cashboxFull := i.cashboxFull && decide ((s.link k).cashbox.value = .full),
          rejectRun := i.rejectRun && decide ((s.sess k).state ≠ .idle ∧ i.runSession = some (s.sess k).serial) } s1

/-- The inlet at a warm restart (R49): no event, no command. -/
def inletRestart (k : Kiosk) (s : State) : State :=
  s.updInlet k (fun i =>
    let leaves := decide (i.mode = .following)
    let i1 := if leaves then { i with rejectRun := false, runSession := none } else i
    if i1.noCause then { i1 with state := .opened, reopenWaiting := false } else { i1 with state := .blocked })

/-- The Cash Unit's answer to the presence notice (R41, R53). -/
def cashPresence (k : Kiosk) (s : State) : State := offerInlet k (escrowPresence k s)

end Sys2Proof.Machine
end

