-- ==== Sys2Proof/Machine/Coins.lean ====
section
/-! DEFINITION. The Coin Classifier (chapter 2) but for the landing of a coin, which moves the session on
(Machine/Sessions.lean): classification, the acceptance decision, second coins, takes of a GATE, releases
and coin-table writes. -/

namespace Sys2Proof.Machine

/-! ### Classification (R23, R24) -/

/-- The multiplier of a gain code (Table 2-2). -/
def gainMultiplier : Nat → Nat
  | 0 => 4
  | 1 => 8
  | 2 => 16
  | _ => 32

/-- The normalised value of a raw measure (R23). -/
def normalise (r : Nat) (c : Calib) : Nat :=
  if r < c.offset then 0 else min 255 ((r - c.offset) * gainMultiplier c.gain / 64)

/-- An entry matches a signature (R24). -/
def CoinEntry.fits (e : CoinEntry) (n1 n2 n3 : Nat) : Bool :=
  decide (e.low1 ≤ n1 ∧ n1 ≤ e.high1 ∧ e.low2 ≤ n2 ∧ n2 ≤ e.high2 ∧ e.low3 ≤ n3 ∧ n3 ≤ e.high3)

/-- The result of a classification (R24). -/
inductive Classification
  | unknown
  | ambiguous
  | refused (type : CoinType)
  | candidate (type : CoinType) (value : Nat)
  deriving DecidableEq, Repr

/-- The valid entries that match a signature, with their indices (R24). -/
def matching (coins : Vector (Option CoinEntry) 16) (n1 n2 n3 : Nat) : List (CoinType × CoinEntry) :=
  allCoinTypes.filterMap (fun t => (coins[t]).bind (fun e => if e.fits n1 n2 n3 then some (t, e) else none))

/-- The classification of a signature (R24). -/
def classify (coins : Vector (Option CoinEntry) 16) (n1 n2 n3 : Nat) : Classification :=
  match matching coins n1 n2 n3 with
  | [] => .unknown
  | [(t, e)] =>
    match e.use with
    | .refuse => .refused t
    | .accept => .candidate t e.value
  | _ => .ambiguous

/-! ### The decision (R25–R27) -/

/-- The route of an accepted coin (R27). -/
def coinRoute (c : KCash) (t : CoinType) : Dest :=
  if c.escrowRoom then .escrow
  else
    match tubeHolding c.tubes t with
    | some n => if (c.tubes[n]).count < (c.tubes[n]).capacity then .tube n else .cashbox
    | none => .cashbox

/-- A decision: what the coin-in-flight record and the GATE hold. -/
structure Decision where
  coinType : Option CoinType
  credit : Option Nat
  route : Dest
  reason : Reason
  deriving DecidableEq, Repr

/-- The overpay test of a candidate (R26). -/
def overpayPasses (k : Kiosk) (t : CoinType) (v : Nat) (s : State) : Bool :=
  let ss := s.sess k
  let due := (ss.fixed.map (·.due)).getD 0
  if ss.credit + v ≤ due then true
  else
    let c := s.cash k
    (makeChange (ss.credit + v - due) (participants s.coinValue (overpayTubes c.tubes (coinRoute c t)))).makeable

/-- The acceptance decision of a candidate (R25). -/
def decideCandidate (k : Kiosk) (t : CoinType) (v : Nat) (s : State) : Decision :=
  let reject (r : Reason) : Decision := { coinType := some t, credit := none, route := .ret, reason := r }
  if (s.cash k).inlet.state = .blocked then reject .inletBlocked
  else if (s.sess k).state ≠ .paying then reject .notPaying
  else if overpayPasses k t v s = false then reject .noChange
  else { coinType := some t, credit := some v, route := coinRoute (s.cash k) t, reason := .none }

/-- The decision for a COIN frame with no coin ahead of it (R24, R25). -/
def decideCoin (k : Kiosk) (r1 r2 r3 : Nat) (s : State) : Decision :=
  let c := s.coin k
  match classify s.coins (normalise r1 c.calib1) (normalise r2 c.calib2) (normalise r3 c.calib3) with
  | .unknown => { coinType := none, credit := none, route := .ret, reason := .unknown }
  | .ambiguous => { coinType := none, credit := none, route := .ret, reason := .ambiguous }
  | .refused t => { coinType := some t, credit := none, route := .ret, reason := .refused }
  | .candidate t v => decideCandidate k t v s

/-- The decision notice at the Session Engine (R28, R96). -/
def decisionNotice (k : Kiosk) (accept : Bool) (s : State) : State :=
  let s1 := activity k s
  if (s.sess k).state ≠ .paying then s1
  else if accept then s1.updSess k (fun x => { x with rejectRun := 0 })
  else if (s.sess k).rejectRun < Config.rejectRunMax then
    let s2 := s1.updSess k (fun x => { x with rejectRun := x.rejectRun + 1 })
    if (s.sess k).rejectRun + 1 = Config.rejectRunMax then rejectRunReached k s2 else s2
  else s1

/-! ### COIN frames (R29, R31) -/

/-- A COIN frame with nothing ahead of it: classified, decided and recorded, its GATE offered (R29). -/
def firstCoin (k : Kiosk) (r1 r2 r3 : Nat) (s : State) : State :=
  let d := decideCoin k r1 r2 r3 s
  let s1 := s.updCoin k (fun c =>
    { c with flight := some { coinType := d.coinType, credit := d.credit, route := d.route, reason := d.reason,
                              gateTaken := false, released := false } })
  decisionNotice k (decide (d.reason = .none)) (offer k (.gate d.route d.reason) s1).1

/-- A second coin (R31). -/
def secondCoin (k : Kiosk) (s : State) : State :=
  let s1 :=
    if s.gateBusy k = false ∧ (s.coin k).returnsOwed = 0 then (offer k (.gate .ret .secondCoin) s).1
    else s.updCoin k (fun c => { c with returnsOwed := if c.returnsOwed < Config.returnsMax then c.returnsOwed + 1 else c.returnsOwed })
  decisionNotice k false s1

/-- A COIN frame delivered to the Coin Classifier (R29, R31). -/
def coinFrame (k : Kiosk) (r1 r2 r3 : Nat) (s : State) : State :=
  if (s.coin k).flight.isSome = true ∨ s.gateBusy k = true ∨ 0 < (s.coin k).returnsOwed then secondCoin k s
  else firstCoin k r1 r2 r3 s

/-! ### The GATE's take, the release, and the end of a flight (R30, R34–R36) -/

/-- A GATE is taken (R30): the GATE of a flight whose gate is not yet taken is that flight's. -/
def gateTaken (k : Kiosk) (s : State) : State :=
  let s1 := s.updCoin k (fun c => { c with flight := c.flight.map (fun f => { f with gateTaken := true }) })
  if 0 < (s.coin k).returnsOwed then
    (offer k (.gate .ret .secondCoin) (s1.updCoin k (fun c => { c with returnsOwed := c.returnsOwed - 1 }))).1
  else s1

/-- A GATE is reported not taken (R34): the flight whose gate is not taken is discarded. The landing notice
given then begins no refund (R87). -/
def gateNotTaken (k : Kiosk) (s : State) : State :=
  s.updCoin k (fun c => { c with flight := c.flight.filter (fun f => f.gateTaken) })

/-- The coin in flight and the returns owed end at absence, unconfiguration and warm restart (R34). -/
def discardCoins (k : Kiosk) (s : State) : State := s.updCoin k (fun c => { c with flight := none, returnsOwed := 0 })

/-- The answers to a release (R36). -/
inductive ReleaseAnswer | noCoin | released | inFlight
  deriving DecidableEq, Repr

/-- The Session Engine asks for the release of the coin in flight (R36). -/
def releaseCoin (k : Kiosk) (s : State) : State × ReleaseAnswer :=
  match (s.coin k).flight with
  | none => (s, .noCoin)
  | some f =>
    if f.gateTaken then (s, .inFlight)
    else
      let s1 := if f.route = .ret then s else rewriteCmd k (.gate .ret .cancelled) s
      (s1.updCoin k (fun c => { c with flight := some { f with route := .ret, reason := .cancelled, released := true } }), .released)

/-- A coin-table write meets the coin in flight of one kiosk (R35). -/
def tableChangedAt (k : Kiosk) (s : State) : State :=
  match (s.coin k).flight with
  | none => s
  | some f =>
    if f.reason = .none ∧ f.gateTaken = false then
      (rewriteCmd k (.gate .ret .tableChanged) s).updCoin k (fun c =>
        { c with flight := some { f with route := .ret, reason := .tableChanged } })
    else s

/-- A coin-table write is taken (R21, R35): the entry, the coins in flight, and the table notice. -/
def writeCoin (t : CoinType) (e : Option CoinEntry) (s : State) : State :=
  recomputeAll (allKiosks.foldl (fun x k => tableChangedAt k x) { s with coins := s.coins.set t e })

end Sys2Proof.Machine
end

