-- ==== Sys2Proof/Machine/Receipts.lean ====
section
/-! DEFINITION. The Receipt Composer (chapter 8): fields, formats and conditions, the expansion of a
template, print jobs, streaming, paper, absence and presence. -/

namespace Sys2Proof.Machine

/-! ### Characters and formats (R141) -/

/-- The characters of a text. -/
def chars (t : String) : List Byte := t.toList.map (fun c => BitVec.ofNat 8 c.toNat)

/-- A decimal digit. -/
def digit (n : Nat) : Byte := BitVec.ofNat 8 (48 + n % 10)

/-- The last `w` decimal digits of a number. -/
def padDigits : Nat → Nat → List Byte
  | 0, _ => []
  | w + 1, n => padDigits w (n / 10) ++ [digit n]

/-- Decimal digits, no leading zeros (R141, NUMBER); ten digits carry every number of the part. -/
def decimal (n : Nat) : List Byte :=
  match (padDigits 10 n).dropWhile (fun d => decide (d = 48#8)) with
  | [] => [48#8]
  | l => l

/-- MONEY (R141). -/
def moneyText (n : Nat) : List Byte := decimal (n / 100) ++ chars "." ++ padDigits 2 n

/-- DATE (R141). -/
def dateText (year month day : Nat) : List Byte :=
  padDigits 4 year ++ chars "-" ++ padDigits 2 month ++ chars "-" ++ padDigits 2 day

/-- The calendar date on which a service day begins (R141). -/
def dayText (n : Nat) : List Byte :=
  let d := dateOfDay n
  dateText d.1 d.2.1 d.2.2

/-- TIME (R141). -/
def timeText (d : DateTime) : List Byte := padDigits 2 d.hour ++ chars ":" ++ padDigits 2 d.minute

/-- A class as written (R141). -/
def classText : RiderClass → List Byte
  | .adult => chars "ADULT"
  | .child => chars "CHILD"
  | .senior => chars "SENIOR"
  | .concession => chars "CONCESSION"

/-- A masked card number (R141, CARD_NO). -/
def cardText (n : Nat) : List Byte := chars "******" ++ padDigits 4 n

/-- TOPUP_STATUS (Table 8-3); none for write state NONE. -/
def statusText (write : WriteState) (kind : SessKind) : Option (List Byte) :=
  let topup := decide (kind = .topup)
  match write with
  | .none => none
  | .done => some (chars (if topup then "TOP-UP LOADED" else "CARD WRITTEN"))
  | .failed => some (chars (if topup then "TOP-UP NOT LOADED" else "CARD NOT WRITTEN"))
  | .unknown => some (chars (if topup then "TOP-UP PENDING CONFIRMATION" else "CARD WRITE PENDING CONFIRMATION"))
  | .issued => some (chars (if topup then "TOP-UP PENDING CONFIRMATION" else "CARD WRITE PENDING CONFIRMATION"))

/-! ### The closed session at expansion (Table 8-2, R142) -/

/-- What an expansion reads: kiosk, session, outcome, clock and held service day. -/
structure Closed where
  kiosk : Kiosk
  sess : Session
  outcome : SessOutcome
  time : DateTime
  day : Nat
  deriving DecidableEq, Repr

/-- The validity days of a receipt: the issued write's for a card pass sale, else those of a paper pass
worked out now (section 8.2). -/
def Closed.validity (c : Closed) : Option (Nat × Nat) :=
  match c.sess.snapshot with
  | none => none
  | some snap =>
    if snap.kind = .pass then
      match c.sess.kind with
      | .cardSale =>
        if c.sess.write.wasIssued then (c.sess.written.bind (·.pass)).map (fun p => (p.validFrom, p.validUntil)) else none
      | .paperSale => some (paperValidity snap c.day)
      | .topup => none
    else none

/-- A value present unless the session's kind is TOPUP. -/
def Closed.saleOnly (c : Closed) (v : List Byte) : Option (List Byte) := if c.sess.kind = .topup then none else some v

/-- The text of a field in a format (Table 8-2, R141); none when the field is absent. -/
def fieldText (c : Closed) (f : Field) (fmt : Format) : Option (List Byte) :=
  let x := c.sess
  match f with
  | .saleTime => some (if fmt = .time then timeText c.time else dateText c.time.year c.time.month c.time.day)
  | .kiosk => some (decimal c.kiosk.val)
  | .serial => some (decimal x.serial)
  | .productName => if x.kind = .topup then none else x.snapshot.map (·.name)
  | .zones => c.saleOnly (decimal x.selection.zones)
  | .cls => c.saleOnly (classText x.pricedClass)
  | .qty => c.saleOnly (decimal x.selection.quantity)
  | .due => some (moneyText ((x.fixed.map (·.due)).getD 0))
  | .paid => some (moneyText x.credit)
  | .change => some (moneyText x.paidBack)
  | .voucher => some (moneyText x.voucher)
  | .cardNo => x.card.map (fun i => cardText i.number)
  | .newBalance => if x.write.wasIssued then x.written.map (fun w => moneyText w.balance) else none
  | .topupStatus => statusText x.write x.kind
  | .validFrom => c.validity.map (fun v => dayText v.1)
  | .validUntil => c.validity.map (fun v => dayText v.2)

/-- A FIELD line in 32 columns (R141). With an empty label it is the bare value: the columns after it are not filled with
spaces (DESIGN CHOICE, log entry 40). -/
def layoutField (label value : List Byte) : List Byte :=
  if label = [] then value
  else
    let l := label.take (31 - value.length)
    l ++ List.replicate (32 - l.length - value.length) 0x20#8 ++ value

/-- A condition (R142). -/
def conditionHolds (c : Closed) : Condition → Bool
  | .always => true
  | .ifCard => c.sess.card.isSome
  | .ifPaperPass =>
    decide (c.sess.kind = .paperSale) && (match c.sess.snapshot with | some p => decide (p.kind = .pass) | none => false)
  | .ifVoucher => decide (0 < c.sess.voucher)
  | .ifUncertain => decide (c.sess.write = .unknown)
  | .ifRefund => decide (c.outcome = .cancelled ∨ c.outcome = .failed)

/-! ### Expansion (R144, R145) -/

/-- An expanded line, and whether it came from a TOPUP_STATUS field. -/
structure Line where
  text : List Byte
  fromStatus : Bool
  deriving DecidableEq, Repr

/-- The line records of a template in place order (R140). -/
def templateRecords (s : State) (t : Fin 16) : List LineRecord := (s.templates[t]).toList.filterMap id

/-- The lines of one record; `follow` expands a REF's target and says whether a nest limit was met. -/
def expandRecord (c : Closed) (follow : RefTarget → List Line × Bool) (r : LineRecord) : List Line × Bool :=
  if conditionHolds c r.condition = false then ([], false)
  else
    match r.body with
    | .text t => ([{ text := t, fromStatus := false }], false)
    | .field label f fmt =>
      match fieldText c f fmt with
      | some v => ([{ text := layoutField label v, fromStatus := decide (f = .topupStatus) }], false)
      | none => ([], false)
    | .rule sep => ([{ text := List.replicate 32 sep, fromStatus := false }], false)
    | .feed n => (List.replicate n { text := [], fromStatus := false }, false)
    | .ref target => follow target

/-- The records of a template one after another. -/
def expandRecords (c : Closed) (follow : RefTarget → List Line × Bool) (l : List LineRecord) : List Line × Bool :=
  l.foldl (fun acc r => let x := expandRecord c follow r; (acc.1 ++ x.1, acc.2 || x.2)) ([], false)

/-- The template a REF leads to: PRODUCT leads to the snapshot's paper template, if there is a snapshot. -/
def refTemplate (c : Closed) : RefTarget → Option (Fin 16)
  | .template t => some t
  | .product => c.sess.snapshot.map (·.template)

/-- The expansion of a template with `levels` more levels to follow (R144): 2 at depth 0, and at 0 levels a
REF yields no line and meets the nest limit. -/
def expandTemplate (s : State) (c : Closed) : Nat → Fin 16 → List Line × Bool
  | 0, t => expandRecords c (fun r => ([], (refTemplate c r).isSome)) (templateRecords s t)
  | n + 1, t =>
    expandRecords c
      (fun r => match refTemplate c r with | some u => expandTemplate s c n u | none => ([], false))
      (templateRecords s t)

/-- The template chosen for an outcome (R143). -/
def chosenTemplate (s : State) (outcome : SessOutcome) (kind : SessKind) : Fin 16 :=
  match outcome, kind with
  | .completed, .topup => s.settings.topupTemplate
  | .completed, _ => s.settings.saleTemplate
  | _, _ => s.settings.refundTemplate

/-- A job's lines with its two flags, before its state is given (R145). -/
structure Printed where
  lines : List (List Byte)
  nestLimit : Bool
  truncated : Bool
  deriving DecidableEq, Repr

/-- The lines of a receipt (R144, R145): expanded, cut at 48 lines, and with the uncertain text where no kept
line came from TOPUP_STATUS. -/
def printedOf (s : State) (c : Closed) : Printed :=
  let x := expandTemplate s c 2 (chosenTemplate s c.outcome c.sess.kind)
  let kept := x.1.take Config.linesMax
  let cutOff := decide (Config.linesMax < x.1.length)
  let uncertain := decide (c.sess.write = .unknown ∨ c.sess.write = .issued)
  let texts := kept.map (·.text)
  if uncertain = true ∧ kept.any (·.fromStatus) = false then
    let extra := (statusText c.sess.write c.sess.kind).getD []
    if texts.length < Config.linesMax then { lines := texts ++ [extra], nestLimit := x.2, truncated := cutOff }
    else { lines := texts.take (Config.linesMax - 1) ++ [extra], nestLimit := x.2, truncated := true }
  else { lines := texts, nestLimit := x.2, truncated := cutOff }

/-! ### Jobs (R146–R148) -/

/-- The state a job takes when it becomes head (R148). -/
def headState (k : Kiosk) (s : State) : JobState := if (s.link k).paper.value = .out then .suspended else .streaming

/-- A job joins the tail of a kiosk's queue (R146, R148). -/
def joinJob (k : Kiosk) (serial : Nat) (p : Printed) (s : State) : State :=
  let state := if s.jobs k = [] then headState k s else .queued
  s.setJobs k (s.jobs k ++ [{ serial := serial, lines := p.lines, taken := 0, inFlight := 0, nestLimit := p.nestLimit,
                              truncated := p.truncated, resumed := false, state := state }])

/-- A job is made from an expansion: QUEUED, or NOT_PRINTED for a walk that gives no line (R145, R146). -/
def makeJob (k : Kiosk) (c : Closed) (s : State) : State × ReceiptState :=
  let p := printedOf s c
  if p.lines = [] then (s, .notPrinted) else (joinJob k c.sess.serial p s, .queued)

/-- A receipt is forced (R146). -/
def receiptForced (x : Session) (outcome : SessOutcome) : Bool :=
  decide (outcome = .completed ∧ x.kind = .paperSale) || decide (0 < x.voucher) || decide (x.write = .unknown) ||
    decide ((outcome = .cancelled ∨ outcome = .failed) ∧ 0 < x.credit)

/-- The Receipt Composer answers at step 4 of the close (R146, R147). A wanted receipt that is not forced is SKIPPED
with three jobs held as with two (DESIGN CHOICE, log entry 37). -/
def requestReceipt (k : Kiosk) (outcome : SessOutcome) (s : State) : State × ReceiptState :=
  let x := s.sess k
  let c : Closed := { kiosk := k, sess := x, outcome := outcome, time := s.clock.dateTime, day := s.clock.heldDay }
  let held := (s.jobs k).length
  if outcome = .stranded then (s, .notPrinted)
  else if receiptForced x outcome then
    if held < Config.jobsMax then makeJob k c s else (s, .notPrinted)
  else if x.receiptWanted then
    if held < 2 then makeJob k c s else (s, .skipped)
  else (s, .notWanted)

/-- The printer is usable for a paper sale (R81, R147). -/
def printerUsable (k : Kiosk) (s : State) : Bool :=
  decide ((s.link k).paper.value ≠ .out ∧ (s.jobs k).length < 2)

/-! ### Streaming (R149, R150) -/

/-- The head job changed. -/
def updHead (k : Kiosk) (f : Job → Job) (s : State) : State :=
  match s.jobs k with
  | [] => s
  | j :: js => s.setJobs k (f j :: js)

/-- The unsent lines of a job. -/
def Job.unsent (j : Job) : List (List Byte) := j.lines.drop (j.taken + j.inFlight)

/-- A PRINTRDY with `slots` free line slots (R149). -/
def printReady (k : Kiosk) (slots : Nat) (s : State) : State :=
  match s.jobs k with
  | [] => s
  | j :: _ =>
    if j.state = .suspended ∨ 2 ≤ countKind (s.link k).queue .print ∨ j.unsent = [] then s
    else
      let n := min (min slots 4) j.unsent.length
      updHead k (fun j => { j with inFlight := j.inFlight + n })
        (offer k (.print (j.unsent.take n) (decide (n = j.unsent.length))) s).1

/-- The head is removed; the next job becomes head (R148, R150). -/
def removeHead (k : Kiosk) (s : State) : State :=
  match s.jobs k with
  | [] => s
  | _ :: [] => s.setJobs k []
  | _ :: j :: js => s.setJobs k ({ j with state := headState k s } :: js)

/-- A PRINT of `n` lines is taken (R150). -/
def printTaken (k : Kiosk) (n : Nat) (cut : Bool) (s : State) : State :=
  let s1 := updHead k (fun j => { j with taken := j.taken + n, inFlight := j.inFlight - n }) s
  if cut then removeHead k s1 else s1

/-- A PRINT of `n` lines is reported not taken (R153). -/
def printNotTaken (k : Kiosk) (n : Nat) (s : State) : State := updHead k (fun j => { j with inFlight := j.inFlight - n }) s

/-! ### Paper, absence and presence (R151–R153) -/

/-- The continued line in front of the first unsent line (R152). -/
def Job.continued (j : Job) : Job :=
  let at_ := j.taken + j.inFlight
  let lines := j.lines.take at_ ++ [chars "-- continued --"] ++ j.lines.drop at_
  { j with lines := lines.take Config.linesMax,
           truncated := j.truncated || decide (Config.linesMax < lines.length), resumed := true }

/-- A SUSPENDED head resumes (R152): with taken count 0 no line is inserted, and RESUMED, the mark of an
inserted line (R155), is not set. -/
def Job.resume (j : Job) : Job :=
  if 0 < j.taken then { j.continued with state := .streaming } else { j with state := .streaming }

/-- The head resumes if it is SUSPENDED (R151). -/
def resumeHead (k : Kiosk) (s : State) : State := updHead k (fun j => if j.state = .suspended then j.resume else j) s

/-- The filtered PAPER value has changed (R151). -/
def paperChanged (k : Kiosk) (v : PaperIn) (s : State) : State :=
  match v with
  | .out =>
    raiseLevel .paperOut
      (updHead k (fun j => if j.state = .streaming ∧ j.unsent ≠ [] then { j with state := .suspended } else j) s)
  | .low => raise .paperLow (some k) (resumeHead k s)
  | .ok => resumeHead k s

/-- The Receipt Composer's answer to the presence notice (R153). -/
def receiptPresence (k : Kiosk) (s : State) : State :=
  updHead k (fun j => if 0 < j.taken ∧ j.unsent ≠ [] then j.continued else j) s

end Sys2Proof.Machine
end

