-- ==== Sys2Proof/Machine/Sessions.lean ====
section
/-! DEFINITION. The Session Engine (chapter 5) with the settlement of a session (sections 6.3 to 6.6):
selecting, confirming, authorising, paying, writing, dispensing, closing, stranding, and what each report,
take and timer does to a session. -/

namespace Sys2Proof.Machine

/-! ### Returning to IDLE (R83, R93 step 6) -/

/-- Every session timer stopped. -/
def Session.stopTimers (x : Session) : Session :=
  { x with tInactivity := none, tAuthorisation := none, tCardWrite := none, tPayout := none }

/-- The session becomes IDLE: timers stopped, the display set with a message, the Cash Unit told (R93 step 6). -/
def toIdle (k : Kiosk) (m : Message) (s : State) : State :=
  sessionReturned k (showMessage k m (s.updSess k (fun x => { x.stopTimers with state := .idle })))

/-! ### Closing (R93, R112, R114) -/

/-- Steps 3 to 5 of the close: authoriser, receipt, journal. -/
def settleRecord (k : Kiosk) (outcome : SessOutcome) (delivered : Bool) (s : State) : State :=
  let r := requestReceipt k outcome (authoriserClose k outcome delivered s)
  append k (recordOf k outcome delivered r.2 r.1) r.1

/-- The final figures of a close (R112, R114). -/
def Session.closed (x : Session) (outcome : SessOutcome) : Session :=
  let retained := if outcome = .completed then (x.fixed.map (·.due)).getD 0 else 0
  { x with outcome := some outcome, retained := retained, stranded := 0, voucher := x.credit - retained - x.paidBack }

/-- The outcome of a close (R93 step 1). -/
def Session.closeOutcome (x : Session) : SessOutcome :=
  if x.purpose = .change then .completed else if x.write = .failed then .failed else .cancelled

/-- The message of a close (R93 step 6). -/
def closeMessage : SessOutcome → Message
  | .completed => .thankYou
  | .failed => .failed
  | _ => .cancelled

/-- A session closes (R93). -/
def closeSession (k : Kiosk) (s : State) : State :=
  let o := (s.sess k).closeOutcome
  let s1 := s.updSess k (fun x => x.closed o)
  let s2 := if 0 < (s1.sess k).voucher then raise .voucherIssued (some k) s1 else s1
  let s3 := if o = .completed then (requestEscrow k .drop s2).1 else s2
  toIdle k (closeMessage o) (settleRecord k o (decide (o = .completed)) s3)

/-- The session closes when neither a payout nor a return is outstanding (R92). -/
def closeIfDone (k : Kiosk) (s : State) : State :=
  let x := s.sess k
  if x.state = .dispensing ∧ x.payoutOut = false ∧ x.returnOut = false then closeSession k s else s

/-! ### Dispensing (R90, R91, R109, R114) -/

/-- The payout of an amount: PAY is offered with the Change Unit's list, and registered if it joins (R109). -/
def startPayout (k : Kiosk) (amount : Nat) (s : State) : State :=
  if amount = 0 then s
  else
    let l := (liveChange k amount s).list
    if l = [] then s
    else
      match offer k (.pay (l.map (fun e => (e.tube, e.count)))) s with
      | (s1, .joined) =>
        (registerOrder k l s1).updSess k (fun x =>
          { x with payout := l, payoutOut := true, payTaken := false, tPayout := some Config.payoutSeconds })
      | (s1, _) => s1

/-- Entry to DISPENSING with purpose CHANGE (R90, R109). -/
def enterChange (k : Kiosk) (s : State) : State :=
  let x := s.sess k
  let due := x.credit - (x.fixed.map (·.due)).getD 0
  let s1 := s.updSess k (fun x =>
    { x with state := .dispensing, purpose := .change, changeDue := due, payout := [], tInactivity := none, tCardWrite := none })
  closeIfDone k (showMessage k .change (startPayout k due s1))

/-- The grant of a session whose refund begins is restored, unless a write stands issued (R91, R132). -/
def restoreAtRefund (k : Kiosk) (s : State) : State :=
  let w := (s.sess k).write
  if w = .none ∨ w = .failed then restoreGrant k s else s

/-- Entry to DISPENSING with purpose REFUND (R91, R114); the message is REFUND unless CARD_BLOCKED was set at
entry (Table 5-3). -/
def enterRefund (k : Kiosk) (m : Message) (s : State) : State :=
  let x := s.sess k
  let committed := x.credit - x.escrowValue
  let s1 := s.updSess k (fun x =>
    { x with state := .dispensing, purpose := .refund, changeDue := committed, payout := [], tInactivity := none, tCardWrite := none })
  let r := requestEscrow k .ret s1
  let s2 := r.1.updSess k (fun x => { x with returnOut := r.2 })
  closeIfDone k (showMessage k m (restoreAtRefund k (startPayout k committed s2)))

/-- The message of a refund that follows a cancel of a cause (Table 5-3; log entry 8). -/
def refundMessage (cause : Option Message) : Message := if cause = some .cardBlocked then .cardBlocked else .refund

/-! ### Writing (R88, R89, R135) -/

/-- The write fails before it is issued, and the whole credit is refunded (R88). -/
def writeFailed (k : Kiosk) (m : Message) (s : State) : State :=
  enterRefund k m (s.updSess k (fun x => { x with write := .failed }))

/-- Entry to WRITING: the write is built, checked and offered (R88, R135). -/
def enterWriting (k : Kiosk) (s : State) : State :=
  let s1 := s.updSess k (fun x => { x with state := .writing, tInactivity := none })
  match (s1.sess k).card with
  | none => writeFailed k .refund s1
  | some c =>
    let w := buildWrite (s1.sess k) c s1.clock.heldDay
    let s2 := (setIssued k (some w) s1).updSess k (fun x => { x with written := some w })
    if s2.stopListed c.number then writeFailed k .cardBlocked s2
    else
      match offer k (.cardWrite w) s2 with
      | (s3, .joined) =>
        showMessage k .writingCard
          (s3.updSess k (fun x => { x with write := .issued, tCardWrite := some Config.cardWriteSeconds }))
      | (s3, _) => writeFailed k .refund s3

/-- The write concludes with the goods delivered or treated as delivered (R89). -/
def writeConcluded (k : Kiosk) (w : WriteState) (s : State) : State :=
  enterChange k (s.updSess k (fun x => { x with write := w, tCardWrite := none }))

/-- A CARDRESULT (R89, R136). -/
def cardResultFrame (k : Kiosk) (r : CardOutcome) (card counter : Nat) (s : State) : State :=
  match (s.kcard k).issued with
  | none => s
  | some w =>
    if w.card = card ∧ w.counter = counter ∧ (s.sess k).state = .writing ∧ (s.sess k).write = .issued then
      match r with
      | .done => writeConcluded k .done s
      | .unknown => writeConcluded k .unknown s
      | .failed => writeFailed k .refund (s.updSess k (fun x => { x with tCardWrite := none }))
    else s

/-! ### Paying and cancelling (R82, R85–R87) -/

/-- Entry to PAYING (R82, R84, R96). -/
def enterPaying (k : Kiosk) (s : State) : State :=
  showMessage k .insertCoins (startInactivity k (s.updSess k (fun x => { x with state := .paying })))

/-- A session that has been paid leaves PAYING (R85). -/
def paidUp (k : Kiosk) (s : State) : State :=
  match (s.sess k).kind with
  | .paperSale => enterChange k s
  | _ => enterWriting k s

/-- One more accepted coin of a type, saturating (R85). -/
def Session.addCoin (x : Session) (t : CoinType) (v : Nat) : Session :=
  { x with credit := x.credit + v, accepted := x.accepted.set t (min Config.acceptedMax (x.accepted[t] + 1)) }

/-- A credit notice (R85, R87). -/
def creditNotice (k : Kiosk) (t : CoinType) (v : Nat) (s : State) : State :=
  let s1 := s.updSess k (fun x => x.addCoin t v)
  match (s.sess k).state with
  | .paying =>
    let s2 := showMessage k (s1.disp k).message s1
    if ((s2.sess k).fixed.map (·.due)).getD 0 ≤ (s2.sess k).credit then paidUp k s2 else s2
  | .cancelling => showMessage k (s1.disp k).message s1
  | _ => s1

/-- The landing notice of a coin that landed begins the refund of a CANCELLING session (R87). -/
def landingNotice (k : Kiosk) (s : State) : State :=
  if (s.sess k).state = .cancelling then enterRefund k (refundMessage (s.sess k).cancelCause) s else s

/-- A session in PAYING is cancelled for a cause, named by its message and recorded (R86). With the coin in
flight the message is CANCELLED whatever the cause. -/
def cancelPaying (k : Kiosk) (cause : Message) (s : State) : State :=
  let r := releaseCoin k (s.updSess k (fun x => { x with cancelCause := some cause }))
  match r.2 with
  | .inFlight => showMessage k .cancelled (r.1.updSess k (fun x => { x with state := .cancelling, tInactivity := none }))
  | _ => enterRefund k (refundMessage (some cause)) r.1

/-- A LANDED frame (R32, R33). -/
def landedFrame (k : Kiosk) (dest : Dest) (s : State) : State :=
  match (s.coin k).flight with
  | none => applyLanding k dest none 0 s
  | some f =>
    let credited : Option Nat := if dest = .ret ∨ f.released = true then none else f.credit
    let s1 := applyLanding k dest f.coinType (credited.getD 0) s
    let s2 :=
      match credited, f.coinType with
      | some v, some t => creditNotice k t v s1
      | _, _ => s1
    (landingNotice k s2).updCoin k (fun c => { c with flight := none })

/-! ### Selecting (R77–R80, R83) -/

/-- The kind a selection derives (R78). -/
def Selection.kind (sel : Selection) : SessKind :=
  match sel.topup, sel.carrier with
  | some _, _ => .topup
  | none, .card => .cardSale
  | none, .paper => .paperSale

/-- A select record applied to the selection (R78). -/
def Selection.apply (sel : Selection) : SelectItem → Selection
  | .product code => { sel with product := some code, topup := none }
  | .topup amount => { sel with topup := some amount, product := none }
  | .zones n => { sel with zones := n }
  | .riderClass c => { sel with cls := c }
  | .quantity n => { sel with quantity := n }
  | .carrier c => { sel with carrier := c }

/-- The price request of a session's selection (R74, R80): none when there is nothing to ask. -/
def priceRequest (x : Session) (s : State) : Option PriceAnswer :=
  match x.selection.topup, x.selection.product with
  | some a, _ => x.card.map (fun c => topupPrice s a c.balance)
  | none, some code => some (salePrice s code x.selection.zones x.pricedClass x.selection.quantity x.selection.carrier)
  | none, none => none

/-- The message of a reprice (R80). -/
def repriceMessage (x : Session) (a : Option PriceAnswer) : Message :=
  match a with
  | some (.refused m) => m
  | some (.price _) => if x.kind = .cardSale ∧ x.card.isNone then .insertCard else .price
  | none => if x.selection.topup.isSome then .insertCard else .select

/-- The denominations offered on the display: the non-zero ones of the ACTIVE bank, in header order (R80). -/
def offeredAmounts (s : State) : List Nat :=
  match s.activeHeader with
  | some h => h.denominations.filter (fun d => decide (d ≠ 0))
  | none => []

/-- A reprice (R80): shown price, message and offered amounts are set and SHOW is offered. -/
def reprice (k : Kiosk) (s : State) : State :=
  let a := priceRequest (s.sess k) s
  let s1 := s.updSess k (fun x => { x with shown := a.bind PriceAnswer.due })
  let d := displayOf (s1.sess k) { s1.disp k with offered := offeredAmounts s1 } (repriceMessage (s1.sess k) a)
  showDisplay k d s1

/-- A select record in SELECTING (R78). -/
def applySelect (k : Kiosk) (i : SelectItem) (s : State) : State :=
  reprice k (s.updSess k (fun x => { x with selection := x.selection.apply i, kind := (x.selection.apply i).kind }))

/-- The card image of the session is set or made absent, and the session repriced (R79). -/
def setCard (k : Kiosk) (c : Option CardImage) (s : State) : State := reprice k (s.updSess k (fun x => { x with card := c }))

/-- The next serial (R75). -/
def nextSerial (n : Nat) : Nat := if n = Config.halfMax then 0 else n + 1

/-- A starting frame in IDLE (R77); `first` applies the frame in SELECTING. -/
def startSession (k : Kiosk) (first : State → State) (s : State) : State :=
  if s.depot.mode ≠ .selling then showMessage k .closed s
  else if (s.svc k).out then showMessage k .outOfService s
  else first (startInactivity k (s.updSess k (fun x => { Session.start (nextSerial x.serial) with state := .selecting })))

/-- A session ends without a record (R83). -/
def endWithoutRecord (k : Kiosk) (s : State) : State := toIdle k .cancelled s

/-! ### Authorising (R84, R124, R131) -/

/-- A grant (R84). -/
def sessionGranted (k : Kiosk) (auth : AuthState) (held : Nat) (s : State) : State :=
  enterPaying k (s.updSess k (fun x => { x with auth := auth, offlineHeld := held, tAuthorisation := none }))

/-- A denial with its reason (R84). -/
def sessionDenied (k : Kiosk) (reason : Message) (s : State) : State :=
  let s1 := (releaseReservation s).updSess k (fun x => { x with auth := .denied, state := .selecting, tAuthorisation := none })
  putMessage k reason (startInactivity k s1)

/-- A session's request is decided by the offline rule and the result reported to it (R84, R131). -/
def decideOffline (k : Kiosk) (s : State) : State :=
  match (s.sess k).card, (s.sess k).topupOf with
  | some c, some (a, _) =>
    match offlineRule k c.number a s with
    | (s1, none) => sessionGranted k .grantedOffline a s1
    | (s1, some m) => sessionDenied k m s1
  | _, _ => s

/-- The link is ONLINE (Table 11-1). -/
def DepotLink.isOnline : DepotLink → Bool
  | .online _ => true
  | _ => false

/-- A request is numbered, then listed or decided at once (R124). -/
def authorise (k : Kiosk) (s : State) : State :=
  let x := s.sess k
  let n := nextAttempt (s.kcard k).lastRequest x.serial
  let record (c : Conclusion) : State :=
    s.updCard k (fun y => { y with lastRequest := some { serial := x.serial, attempt := n, conclusion := c } })
  match x.card, x.topupOf with
  | some c, some (a, _) =>
    if s.depot.link.isOnline then
      (listRequest { kiosk := k, serial := x.serial, attempt := n, card := c.number, cls := c.cls, balance := c.balance,
                     amount := a, fetched := false } (record .listed)).updSess k
        (fun y => { y with tAuthorisation := some s.settings.authorisation })
    else decideOffline k (record .atOnce)
  | _, _ => s

/-- Entry to AUTHORISING (R82, R84). -/
def enterAuthorising (k : Kiosk) (s : State) : State :=
  let s1 := s.updSess k (fun x => { x with state := .authorising, auth := .pending, tInactivity := none })
  authorise k (showMessage k .authorising s1)

/-- A CANCEL or a card removal in AUTHORISING (R84, R127, R158). -/
def cancelAuthorising (k : Kiosk) (s : State) : State := endWithoutRecord k (releaseReservation (withdraw k s))

/-- The authorisation timer has expired (R127). -/
def authorisationExpired (k : Kiosk) (s : State) : State :=
  decideOffline k ((conclude k .timeout (unlist k s)).updSess k (fun x => { x with tAuthorisation := none }))

/-- Every listed request is concluded at the loss of the link, oldest first (R129). -/
def linkLoss (s : State) : State :=
  s.cards.authList.foldl (fun t e =>
    decideOffline e.kiosk ((conclude e.kiosk .linkLoss (unlist e.kiosk t)).updSess e.kiosk
      (fun x => { x with tAuthorisation := none }))) s

/-- A card number inserted into the stop-list meets one session (R123). -/
def stopListHit (n : Nat) (k : Kiosk) (s : State) : State :=
  let x := s.sess k
  if (x.card.map (·.number)) = some n then
    match x.state with
    | .authorising => sessionDenied k .cardBlocked (conclude k .stoplist (unlist k s))
    | .paying => if x.kind = .paperSale then s else cancelPaying k .cardBlocked s
    | _ => s
  else s

/-! ### CONFIRM (R81, R82) -/

/-- The session goes on by its kind and its fixed due (R82). -/
def afterConfirm (k : Kiosk) (s : State) : State :=
  let s1 := s.updSess k (fun x => { x with tInactivity := none })
  let x := s1.sess k
  let due := (x.fixed.map (·.due)).getD 0
  match x.kind with
  | .topup => enterAuthorising k s1
  | .cardSale => if 0 < due then enterPaying k s1 else enterWriting k s1
  | .paperSale => if 0 < due then enterPaying k s1 else enterChange k s1

/-- Steps 5 to 7 of CONFIRM: the message of the first that refuses (R81). -/
def confirmRefusal (k : Kiosk) (s : State) : Option Message :=
  let x := s.sess k
  let isPass := match x.snapshot with | some p => decide (p.kind = .pass) | none => false
  match x.kind, x.card with
  | .paperSale, _ => if printerUsable k s then none else some .noPrinter
  | .topup, some c => if s.stopListed c.number then some .cardBlocked else none
  | .cardSale, some c =>
    if s.stopListed c.number then some .cardBlocked
    else if isPass = true ∧ currentPass c s.clock.heldDay = true then some .passPresent
    else none
  | _, none => none

/-- Steps 4 to 7 of CONFIRM, with the price fixed (R81). -/
def confirmReserved (k : Kiosk) (s : State) : State :=
  match reserve s with
  | (s1, false) => putMessage k .journalFull s1
  | (s1, true) =>
    match confirmRefusal k s1 with
    | some m => putMessage k m (releaseReservation s1)
    | none => afterConfirm k s1

/-- CONFIRM in SELECTING (R81, R74). -/
def confirm (k : Kiosk) (s : State) : State :=
  let x := s.sess k
  match x.shown with
  | none => s
  | some shown =>
    if x.kind ≠ .paperSale ∧ x.card.isNone then putMessage k .insertCard s
    else
      match priceRequest x s with
      | none => s
      | some (.refused m) => putMessage k m (s.updSess k (fun x => { x with shown := none }))
      | some (.price p) =>
        if p.due = shown then confirmReserved k (s.updSess k (fun x => { x with fixed := some p }))
        else putMessage k .priceChanged (s.updSess k (fun x => { x with shown := some p.due }))

/-! ### KEY and CARD frames (Table 5-2) -/

/-- A KEY carrying a select record. -/
def keySelectFrame (k : Kiosk) (i : SelectItem) (s : State) : State :=
  match (s.sess k).state with
  | .idle => startSession k (applySelect k i) s
  | .selecting => applySelect k i (activity k s)
  | _ => activity k s

/-- A KEY CONFIRM. -/
def keyConfirmFrame (k : Kiosk) (s : State) : State :=
  match (s.sess k).state with
  | .selecting => confirm k (activity k s)
  | _ => activity k s

/-- A KEY CANCEL. -/
def keyCancelFrame (k : Kiosk) (s : State) : State :=
  match (s.sess k).state with
  | .selecting => endWithoutRecord k (activity k s)
  | .authorising => cancelAuthorising k s
  | .paying => cancelPaying k .cancelled (activity k s)
  | _ => s

/-- A KEY RECEIPT-YES or RECEIPT-NO (R95). -/
def keyReceiptFrame (k : Kiosk) (wanted : Bool) (s : State) : State :=
  match (s.sess k).state with
  | .idle => s
  | _ => (activity k s).updSess k (fun x => { x with receiptWanted := wanted })

/-- A CARD with an image. -/
def cardImageFrame (k : Kiosk) (c : CardImage) (s : State) : State :=
  match (s.sess k).state with
  | .idle => startSession k (setCard k (some c)) s
  | .selecting => setCard k (some c) (activity k s)
  | _ => activity k s

/-- A CARD reporting removal. -/
def cardRemovalFrame (k : Kiosk) (s : State) : State :=
  match (s.sess k).state with
  | .selecting => setCard k none (activity k s)
  | .authorising => cancelAuthorising k s
  | .paying => if (s.sess k).kind = .paperSale then activity k s else cancelPaying k .cancelled (activity k s)
  | _ => s

/-! ### Payouts and returns (R92, R98, R110, R111) -/

/-- The value of a PAYREPORT over a payout list (R110). -/
def reportValue (l : List PayEntry) (counts : Vector Nat 6) : Nat :=
  (l.map (fun e => min counts[e.tube] e.count * e.value)).sum

/-- A PAYREPORT: the Cash Unit applies it, then the session counts it (R44, R110). -/
def payReportFrame (k : Kiosk) (counts : Vector Nat 6) (s : State) : State :=
  let s1 := applyPayReport k counts s
  let x := s1.sess k
  if x.state = .dispensing ∧ x.payoutOut = true ∧ x.payTaken = true then
    closeIfDone k (s1.updSess k (fun x =>
      { x with paidBack := x.paidBack + reportValue x.payout counts, payoutOut := false, tPayout := none }))
  else s1

/-- The payout timer has expired (R92, R111). -/
def payoutExpired (k : Kiosk) (s : State) : State :=
  closeIfDone k (abandonOrder k (s.updSess k (fun x => { x with payoutOut := false, tPayout := none })))

/-- A PAY is taken (R44, R111): the session's own when its payout is outstanding and its PAY not yet taken. -/
def payTaken (k : Kiosk) (s : State) : State :=
  if (s.sess k).payoutOut = true ∧ (s.sess k).payTaken = false then
    orderTaken k (s.updSess k (fun x => { x with payTaken := true }))
  else s

/-- A PAY is reported not taken (R45, R98, R111). -/
def payNotTaken (k : Kiosk) (s : State) : State :=
  if (s.sess k).payoutOut = true ∧ (s.sess k).payTaken = false then
    abandonOrder k (s.updSess k (fun x => { x with payoutOut := false, tPayout := none }))
  else s

/-- An ESCROW command is taken, and a RETURN told to the session (R40, R92). -/
def escrowTakenFor (k : Kiosk) (s : State) : State :=
  match escrowTaken k s with
  | (s1, none) => s1
  | (s1, some v) => closeIfDone k (s1.updSess k (fun x => { x with paidBack := x.paidBack + v, returnOut := false }))

/-- An ESCROW command is reported not taken (R41, R98). -/
def escrowNotTakenFor (k : Kiosk) (s : State) : State :=
  match escrowNotTaken k s with
  | (s1, true) => s1.updSess k (fun x => { x with returnOut := false })
  | (s1, false) => s1

/-- A CARDWRITE is reported not taken (R98): a write still ISSUED becomes UNKNOWN. One concluded before the report keeps
its write state (DEDUCED from R89 and R136, log entry 39). -/
def cardWriteNotTaken (k : Kiosk) (s : State) : State :=
  if (s.sess k).state = .writing ∧ (s.sess k).write = .issued then s.updSess k (fun x => { x with write := .unknown }) else s

/-! ### Stranding (R98, R99, R116–R118) -/

/-- Whether the goods were delivered at a stranding (R116). -/
def Session.deliveredAtStranding (x : Session) : Bool :=
  match x.state with
  | .writing => decide (x.write = .issued ∨ x.write = .unknown)
  | .dispensing => decide (x.purpose = .change)
  | _ => false

/-- The figures of a stranding (R116, R117). -/
def Session.strandedFigures (x : Session) : Session :=
  let retained := if x.deliveredAtStranding then (x.fixed.map (·.due)).getD 0 else 0
  { x with outcome := some .stranded, retained := retained, voucher := 0, stranded := x.credit - retained - x.paidBack,
           payoutOut := false, returnOut := false }

/-- A session holding a reservation is settled as stranded, up to the append of its record (R117). -/
def strandSession (k : Kiosk) (s : State) : State :=
  let delivered := (s.sess k).deliveredAtStranding
  let s1 := if (s.sess k).payoutOut then abandonOrder k (withdraw k s) else withdraw k s
  let s2 := s1.updSess k (fun x => x.strandedFigures)
  let s3 := if 0 < (s2.sess k).credit then raise .strandedCredit (some k) s2 else s2
  settleRecord k .stranded delivered s3

/-- The absence notice at the Session Engine (R98). -/
def sessionAbsence (k : Kiosk) (s : State) : State :=
  match (s.sess k).state with
  | .idle => s
  | .selecting => endWithoutRecord k s
  | _ => toIdle k (idleMessage k s) (strandSession k s)

/-- A session at a warm restart (R99, R75): settled if it held a reservation, then at its start values. -/
def sessionRestart (k : Kiosk) (s : State) : State :=
  let s1 :=
    match (s.sess k).state with
    | .idle => s
    | .selecting => s
    | _ => strandSession k s
  s1.updSess k (fun x => Session.start x.serial)

/-! ### Timers (R83, R86, R89) and service (R76) -/

/-- The inactivity timer has expired (R96). -/
def inactivityExpired (k : Kiosk) (s : State) : State :=
  match (s.sess k).state with
  | .selecting => endWithoutRecord k s
  | .paying => cancelPaying k .timedOut s
  | _ => s

/-- The service causes change; a change of the service state sets the IDLE message (R76). -/
def setService (k : Kiosk) (f : Service → Service) (s : State) : State :=
  let s1 := s.updSvc k f
  if (s1.svc k).out ≠ (s.svc k).out ∧ (s1.sess k).state = .idle then putMessage k (idleMessage k s1) s1 else s1

/-- The filtered SERVICE value has changed (R76). -/
def serviceChanged (k : Kiosk) (v : ServiceIn) (s : State) : State :=
  setService k (fun x => { x with service := decide (v = .on) }) s

/-- A change of the part mode at one kiosk (R187): the IDLE message, and SHOW. -/
def modeShownAt (k : Kiosk) (s : State) : State :=
  if (s.sess k).state = .idle then showMessage k (idleMessage k s) s else offerShow k s

end Sys2Proof.Machine
end

