-- ==== Sys2Proof/Machine/Loops.lean ====
section
/-! DEFINITION. The Loop Controllers (chapter 1): the poll schedule, the end of an exchange, takes and
commands not taken, absence and presence, and the status filters. -/

namespace Sys2Proof.Machine

/-! ### The poll schedule (R9–R11, R15) -/

/-- The next poll number in the cycle of four (R11). -/
def nextPollNumber (n : Nat) : Nat := if n < 4 then n + 1 else 1

/-- The head of a queue after its first sending with toggle `t`. -/
def markHead (q : List QCmd) (t : Bool) : List QCmd :=
  match q with
  | [] => []
  | c :: cs => { c with sent := some t } :: cs

/-- What a poll to a PRESENT kiosk sends (R9, R11, R15): the kind of poll, T, and the frame. -/
def pollOf (k : Kiosk) (l : KLink) : PollKind × Bool × List Byte :=
  let wanted := decide (l.pollNumber = 1)
  if l.resyncPending then
    let t := Config.resyncToggle k l.lastToggle
    (.resync, l.lastToggle, kioskFrame k 0x10 (pollControl t wanted true) [])
  else
    match l.queue with
    | [] => (.poll, l.lastToggle, kioskFrame k 0x10 (pollControl l.lastToggle wanted false) [])
    | c :: _ =>
      let t := c.sent.getD (!l.lastToggle)
      (.command, t, kioskFrame k c.cmd.kind.frameKind (pollControl t wanted false) c.cmd.payload)

/-- A poll goes to a PRESENT kiosk (R11, R15). -/
def pollPresent (l : LoopId) (k : Kiosk) (round : List Kiosk) (fresh : Bool) (s : State) : State :=
  let p := pollOf k (s.link k)
  let c := s.loop l
  let s1 := s.setLoop l { c with exchange := some { kiosk := k, poll := p.1, rate := c.rate, frame := p.2.2 }, round := round,
                                 rediscovered := if fresh then false else c.rediscovered }
  s1.updLink k (fun x =>
    { x with pollNumber := nextPollNumber x.pollNumber,
             queue := if p.1 = .command then markHead x.queue p.2.1 else x.queue,
             lastToggle := if p.1 = .command ∧ (x.queue.head?.bind (·.sent)).isNone = true then p.2.1 else x.lastToggle })

/-- A rediscovery poll goes to an ABSENT kiosk (R10): POLL with the last toggle, no mark. -/
def pollAbsent (l : LoopId) (k : Kiosk) (s : State) : State :=
  let c := s.loop l
  s.setLoop l { c with exchange := some { kiosk := k, poll := .rediscovery, rate := c.rate,
                                          frame := kioskFrame k 0x10 (pollControl (s.link k).lastToggle false false) [] },
                       round := [], rediscovered := true, rotation := k }

/-- The kiosks of a loop in a link state, ascending. -/
def kiosksIn (l : LoopId) (st : LinkState) (s : State) : List Kiosk :=
  (loopKiosks l).filter (fun k => decide ((s.link k).state = st))

/-- The ABSENT kiosks of a loop's rotation, ascending: one configured in the round under way joins it from the
next round (R6). -/
def inRotation (l : LoopId) (s : State) : List Kiosk :=
  (kiosksIn l .absent s).filter (fun k => decide (k ∉ (s.loop l).joining))

/-- The next ABSENT kiosk of the rotation (R10): the first after the position, wrapping. -/
def nextAbsent (l : LoopId) (s : State) : Option Kiosk :=
  let absent := inRotation l s
  match absent.find? (fun k => decide ((s.loop l).rotation.val < k.val)) with
  | some k => some k
  | none => absent.head?

/-- A new round begins: the kiosks configured in the last one have joined (R6), and the PRESENT kiosks are polled
(R10); with none, a rediscovery poll or silence. -/
def newRound (l : LoopId) (s : State) : State :=
  let t := s.setLoop l { s.loop l with joining := [] }
  match kiosksIn l .present t with
  | k :: ks => pollPresent l k ks true t
  | [] =>
    match nextAbsent l t with
    | some k => pollAbsent l k t
    | none => t.setLoop l { t.loop l with exchange := none, round := [], rediscovered := false }

/-- The next frame of the poll schedule is sent (R3, R10). -/
def nextPoll (l : LoopId) (s : State) : State :=
  match (s.loop l).round.dropWhile (fun k => decide ((s.link k).state ≠ .present)) with
  | k :: ks => pollPresent l k ks false s
  | [] =>
    if (s.loop l).rediscovered then newRound l s
    else
      match nextAbsent l s with
      | some k => pollAbsent l k s
      | none => newRound l s

/-- A loop that sends nothing begins its schedule when a kiosk is configured (R10). -/
def startLoop (l : LoopId) (s : State) : State :=
  match (s.loop l).exchange with
  | some _ => s
  | none => nextPoll l s

/-- Both loops. -/
def startLoops (s : State) : State := startLoop .b (startLoop .a s)

/-! ### Takes and commands not taken (R15, R16) -/

/-- A held command leaves its slot and joins the tail when the sent command of its kind is taken (R13). -/
def KLink.releaseHeld (l : KLink) (kd : CmdKind) : KLink :=
  match kd with
  | .show =>
    match l.heldShow with
    | some d => { l.join (.show d) with heldShow := none }
    | none => l
  | .inlet =>
    match l.heldInlet with
    | some i => { l.join (.inlet i) with heldInlet := none }
    | none => l
  | _ => l

/-- A take is reported to the command's owner (R15). -/
def reportTaken (k : Kiosk) (c : Cmd) (s : State) : State :=
  match c with
  | .gate _ _ => gateTaken k s
  | .pay _ => payTaken k s
  | .escrow _ _ _ => escrowTakenFor k s
  | .show _ => s
  | .cardWrite _ => s
  | .print lines cut => printTaken k lines.length cut s
  | .inlet _ => s

/-- The head of the queue is taken if it was sent with toggle `a` (R15). -/
def takeHead (k : Kiosk) (a : Bool) (s : State) : State :=
  match (s.link k).queue with
  | [] => s
  | c :: cs =>
    if c.sent = some a then
      reportTaken k c.cmd (s.updLink k (fun x => ({ x with queue := cs } : KLink).releaseHeld c.cmd.kind))
    else s

/-- A command is reported to its owner as not taken (R16, Table 1-3). -/
def reportNotTaken (k : Kiosk) (c : Cmd) (s : State) : State :=
  match c with
  | .gate _ _ => gateNotTaken k s
  | .pay _ => payNotTaken k s
  | .escrow _ _ _ => escrowNotTakenFor k s
  | .show _ => s
  | .cardWrite _ => cardWriteNotTaken k s
  | .print lines _ => printNotTaken k lines.length s
  | .inlet _ => s

/-- The queue and the held slots of a kiosk are emptied, each command reported, head first, then the held SHOW
and the held INLET (R16). -/
def dropQueue (k : Kiosk) (s : State) : State :=
  let l := s.link k
  let dropped := l.queue.map (·.cmd) ++ (l.heldShow.map Cmd.show).toList ++ (l.heldInlet.map Cmd.inlet).toList
  dropped.foldl (fun t c => reportNotTaken k c t) (s.updLink k (fun x => { x with queue := [], heldShow := none, heldInlet := none }))

/-! ### Absence and presence (R7, R8) -/

/-- Candidates and counts cleared (R17). -/
def Filter.clear {α : Type} (f : Filter α) : Filter α := { f with candidate := none, count := 0 }

/-- The four filters with candidates and counts cleared (R17). -/
def KLink.clearCandidates (l : KLink) : KLink :=
  { l with door := l.door.clear, cashbox := l.cashbox.clear, paper := l.paper.clear, service := l.service.clear }

/-- A PRESENT kiosk becomes ABSENT (R7). -/
def becomeAbsent (k : Kiosk) (s : State) : State :=
  let s1 := s.updLink k (fun l => { l.clearCandidates with state := .absent, missCount := 0 })
  let s2 := raise .kioskAbsent (some k) (dropQueue k s1)
  sessionAbsence k (escrowAbsence k (discardCoins k s2))

/-- An ABSENT kiosk becomes PRESENT (R8). -/
def becomePresent (k : Kiosk) (s : State) : State :=
  let s1 := s.updLink k (fun l =>
    { l with state := .present, missCount := 0, pollNumber := 1, resyncPending := true, firstStatusPending := true })
  receiptPresence k (offerShow k (cashPresence k (raise .kioskPresent (some k) s1)))

/-- A miss on an exchange with a kiosk (R7): counted only while PRESENT. -/
def missAt (k : Kiosk) (s : State) : State :=
  if (s.link k).state = .present then
    if (s.link k).missCount + 1 < Config.missLimit then s.updLink k (fun l => { l with missCount := l.missCount + 1 })
    else becomeAbsent k s
  else s

/-! ### The end of an exchange (R3, R4, R9) -/

/-- An exchange ends as a miss and the next poll is sent (R3, R7). -/
def missExchange (l : LoopId) (s : State) : State :=
  match (s.loop l).exchange with
  | none => s
  | some x => nextPoll l (missAt x.kiosk s)

/-- A good reply from a PRESENT kiosk before its payload (R4, R7, R9, R15): the miss count, then the resync or
the take. -/
def acknowledge (k : Kiosk) (pk : PollKind) (a : Bool) (s : State) : State :=
  let s1 := s.updLink k (fun l => { l with missCount := 0 })
  match pk with
  | .resync => if a then s1.updLink k (fun l => { l with resyncPending := false, lastToggle := true }) else s1
  | .command => takeHead k a s1
  | _ => s1

/-- A good reply ends the exchange (R4, R8): its payload is delivered from a PRESENT kiosk and discarded from an
ABSENT one. -/
def goodReply (l : LoopId) (a : Bool) (deliver : Kiosk → State → State) (s : State) : State :=
  match (s.loop l).exchange with
  | none => s
  | some x =>
    match (s.link x.kiosk).state with
    | .present => nextPoll l (deliver x.kiosk (acknowledge x.kiosk x.poll a s))
    | .absent => nextPoll l (becomePresent x.kiosk s)
    | .unused => nextPoll l s

/-! ### Status filters (R17–R19) -/

/-- A reported value at a filter (R17). -/
def Filter.report {α : Type} [DecidableEq α] (f : Filter α) (v : α) : Filter α :=
  if v = f.value then f.clear
  else if f.candidate = some v then
    if f.count + 1 < Config.filterRun then { f with count := f.count + 1 } else { value := v, candidate := none, count := 0 }
  else { f with candidate := some v, count := 1 }

/-- The first STATUS sets a filter directly (R18). -/
def Filter.setDirect {α : Type} (f : Filter α) (v : α) : Filter α := { f with value := v }

/-- Whether a loop's door edge selection names a change of the door to `v` (R19). -/
def DoorEdge.names (e : DoorEdge) (v : DoorIn) : Bool :=
  match e, v with
  | .both, _ => true
  | .opening, .opened => true
  | .closing, .closed => true
  | _, _ => false

/-- The door summary event of a loop (R19). -/
def doorEvent : LoopId → EventKind
  | .a => .doorOpenA
  | .b => .doorOpenB

/-- The filtered door value has changed (R19). -/
def doorChanged (k : Kiosk) (v : DoorIn) (s : State) : State :=
  if (s.loop (loopOf k)).edge.names v then
    raiseLevel (doorEvent (loopOf k)) (s.updLink k (fun l => { l with doorReport := true }))
  else s

/-- The changed filtered values are handed to the blocks of Table 1-4, in the table's order. -/
def handChanges (k : Kiosk) (old new : KLink) (s : State) : State :=
  let s1 := if old.door.value = new.door.value then s else doorChanged k new.door.value s
  let s2 := if old.cashbox.value = new.cashbox.value then s1 else cashboxChanged k new.cashbox.value s1
  let s3 := if old.paper.value = new.paper.value then s2 else paperChanged k new.paper.value s2
  if old.service.value = new.service.value then s3 else serviceChanged k new.service.value s3

/-- The filters after a STATUS (R17, R18). -/
def KLink.applyStatus (l : KLink) (d : DoorIn) (c : CashboxIn) (p : PaperIn) (v : ServiceIn) : KLink :=
  if l.firstStatusPending then
    { l with door := l.door.setDirect d, cashbox := l.cashbox.setDirect c, paper := l.paper.setDirect p,
             service := l.service.setDirect v, firstStatusPending := false }
  else
    { l with door := l.door.report d, cashbox := l.cashbox.report c, paper := l.paper.report p, service := l.service.report v }

/-- A STATUS delivered from a kiosk (R17, R18). -/
def statusFrame (d : DoorIn) (c : CashboxIn) (p : PaperIn) (v : ServiceIn) (k : Kiosk) (s : State) : State :=
  let old := s.link k
  let new := old.applyStatus d c p v
  handChanges k old new (s.updLink k (fun _ => new))

/-! ### The KIOSK table (R6) -/

/-- The filters at their initial values, candidates and door report flag cleared (R6, R17, R19). -/
def KLink.resetInputs (l : KLink) : KLink :=
  { l with door := .start .closed, cashbox := .start .ok, paper := .start .ok, service := .start .off, doorReport := false }

/-- The reset of the filtered values hands CASHBOX OK and SERVICE OFF to their blocks (R48, R50, R76). -/
def inputsReset (k : Kiosk) (s : State) : State := serviceChanged k .off (cashboxChanged k .ok s)

/-- A newly configured kiosk waits for the next round of its loop (R6). -/
def joinRotation (k : Kiosk) (s : State) : State :=
  s.setLoop (loopOf k) { s.loop (loopOf k) with joining := (s.loop (loopOf k)).joining.insert k }

/-- An UNUSED kiosk is configured (R6). -/
def configureKiosk (k : Kiosk) (s : State) : State :=
  startLoop (loopOf k) (joinRotation k
    (inputsReset k (s.updLink k (fun l => { l.resetInputs with state := .absent, missCount := 0 }))))

/-- The exchange in progress with a kiosk ends, its reply discarded, and the next poll is sent (R6). -/
def leaveSchedule (k : Kiosk) (s : State) : State :=
  match (s.loop (loopOf k)).exchange with
  | some x => if x.kiosk = k then nextPoll (loopOf k) s else s
  | none => s

/-- A configured kiosk is unconfigured (R6, R16, R34, R153). -/
def unconfigureKiosk (k : Kiosk) (s : State) : State :=
  let s1 := s.updLink k (fun l => { l.resetInputs with state := .unused, firstStatusPending := false })
  let s2 := (dropQueue k s1).setJobs k []
  leaveSchedule k (inputsReset k (discardCoins k s2))

/-! ### Warm restart (R5, R16, R17, R19) -/

/-- The link part of a kiosk at a warm restart (R5): queues emptied without reports, filtered values kept. -/
def KLink.restart (l : KLink) : KLink :=
  { l.clearCandidates with
    state := if l.state = .unused then .unused else .absent, missCount := 0, pollNumber := 1, resyncPending := false,
    lastToggle := true, firstStatusPending := false, doorReport := false, queue := [], heldShow := none, heldInlet := none }

/-- A loop at a warm restart (R1, R10): table entry kept, exchange ended, rotation at the highest kiosk. -/
def LoopCtl.restart (c : LoopCtl) (last : Kiosk) : LoopCtl :=
  { c with exchange := none, round := [], rediscovered := false, rotation := last, joining := [] }

end Sys2Proof.Machine
end

