-- ==== Sys2Proof/Machine/Restart.lean ====
section
/-! DEFINITION. The warm restart (R188): every block's own restart rule, in one sequence. -/

namespace Sys2Proof.Machine

/-- A step of a restart at every kiosk, in ascending order. -/
def atEveryKiosk (f : Kiosk → State → State) (s : State) : State := allKiosks.foldl (fun t k => f k t) s

/-- The length in milliseconds of the timer of a link state (Table 11-1). -/
def linkTimer (link : DepotLink) (supervision : Nat) : Nat :=
  match link with
  | .search _ => Config.huntStepMs
  | .online _ => 1000 * supervision
  | .hold _ => 3000 * supervision

/-- The depot line at a warm restart (R175, R178, R184, R188). -/
def depotRestart (cause : RestartCause) (pins : Fin 32) (s : State) : State :=
  let link : DepotLink := if cause = .pin then .search .r9600 else s.depot.link
  raise .restarted none
    (clearAllEvents
      { s with depot := { s.depot with station := pins, link := link, linkTimerMs := linkTimer link s.settings.supervision,
                                       cause := cause, restartOwed := false,
                                       reply := if cause = .pin then none else s.depot.reply } })

/-- The Card Authoriser's lists at a warm restart (R139). -/
def cardsRestart (s : State) : State :=
  atEveryKiosk (fun k t => t.updCard k (fun c => { c with lastRequest := none }))
    { s with cards := { s.cards with authList := [] } }

/-- The display at a warm restart (R100). -/
def displayRestart (k : Kiosk) (s : State) : State := s.setDisp k (Display.idle (idleMessage k s))

/-- The end of a warm restart of `seconds` (R166, R173, R184, R107, R10). -/
def endRestart (seconds : Nat) (s : State) : State :=
  let s1 : State := { s with journal := { s.journal with highFlag := decide (Config.journalHigh ≤ s.journal.occupancy) } }
  startLoops (recomputeAll (levelEvents.foldl (fun t e => raiseLevel e t) (clockAfterRestart seconds s1)))

/-- A warm restart (R188; order of the blocks: log entry 14). Until its end the clock stands as it was at its beginning, for
the stranded records (R166, R173); the seconds it lasts are an operand (log entry 34). -/
def warmRestart (cause : RestartCause) (start : WarmStart) (s : State) : State :=
  let s1 := depotRestart cause start.pins s
  let s2 : State := { s1 with loopA := s1.loopA.restart 7, loopB := s1.loopB.restart 15 }
  let s3 := atEveryKiosk (fun k t => discardCoins k (t.updLink k KLink.restart)) s2
  let s4 := atEveryKiosk (fun k t => abandonOrder k (escrowRestart k t)) (cardsRestart s3)
  let s5 := atEveryKiosk sessionRestart s4
  let s6 := atEveryKiosk (fun k t => inletRestart k (setIssued k none (t.setJobs k []))) s5
  endRestart start.seconds (atEveryKiosk displayRestart s6)

end Sys2Proof.Machine
end

