-- ==== Sys2Proof/Machine/Depot.lean ====
section
/-! DEFINITION. The Depot Line Controller (chapter 11): the link and its timers, the reply frame, and the
handler of every request, each with the refusals of its rule in order. -/

namespace Sys2Proof.Machine

/-! ### Answers (Table 11-2) -/

/-- The status codes, in the order of Table 11-2. -/
inductive Status
  | ok | badKind | badLength | badField | badIndex | wrongMode | kioskBusy | activeBank | switchPending | bankInvalid
  | full | already | notFound | empty | late | noSuchRequest | duplicate | causeActive | tablesIncomplete | clockUnset
  | floatTooLow | busy
  deriving DecidableEq, Repr

def Status.code : Status → Nat
  | .ok => 0 | .badKind => 1 | .badLength => 2 | .badField => 3 | .badIndex => 4 | .wrongMode => 5 | .kioskBusy => 6
  | .activeBank => 7 | .switchPending => 8 | .bankInvalid => 9 | .full => 10 | .already => 11 | .notFound => 12
  | .empty => 13 | .late => 14 | .noSuchRequest => 15 | .duplicate => 16 | .causeActive => 17
  | .tablesIncomplete => 18 | .clockUnset => 19 | .floatTooLow => 20 | .busy => 21

/-- An answer: its status code and the data after it (R179). -/
structure Answer where
  status : Status
  data : List Byte
  deriving DecidableEq, Repr

/-- What a request does and answers. -/
abbrev Handler := State → State × Answer

/-- A refusal: no data, no change (R179). -/
def refuse (st : Status) : Handler := fun s => (s, { status := st, data := [] })
/-- A request taken with an effect and no data. -/
def taken (f : State → State) : Handler := fun s => (f s, { status := .ok, data := [] })
/-- A unit whose list field has not its fixed length is a payload of the wrong length (R179, Table 12-7). -/
def sized {α : Type} (l : List α) (n : Nat) (h : Handler) : Handler := if l.length = n then h else refuse .badLength
/-- A request that only reads. -/
def readOut (f : State → List Byte) : Handler := fun s => (s, { status := .ok, data := f s })

/-! ### Link supervision (R176, R177) -/

def State.setLink (s : State) (l : DepotLink) : State :=
  { s with depot := { s.depot with link := l, linkTimerMs := linkTimer l s.settings.supervision } }

/-- Entry to ONLINE at a rate (R177). -/
def enterOnline (r : DepotRate) (s : State) : State := clearOffline (raise .linkRestored none (s.setLink (.online r)))

/-- A good frame addressed to this station (R176, R177). -/
def frameForStation (s : State) : State :=
  match s.depot.link with
  | .search r => enterOnline r s
  | .hold r => enterOnline r s
  | .online r => s.setLink (.online r)

/-- A good frame for another station: it ends a search, and restarts no timer (R176, R177). -/
def frameForOther (s : State) : State :=
  match s.depot.link with
  | .search r => enterOnline r s
  | _ => s

/-- No reply is sent. -/
def State.noReply (s : State) : State := { s with depot := { s.depot with reply := none } }

/-- A frame that arrives while the reply to a RESTART is being sent is not received (R175, R188). -/
def received (f : State → State) (s : State) : State := if s.depot.restartOwed then s else f s

/-- The reply frame (R175, R179, R189): built after the request's effects, ATTENTION in bit 0 of its control. -/
def replyFrame (kind : Byte) (a : Answer) (s : State) : List Byte :=
  Frame.bytes { addr := BitVec.ofNat 8 (128 + s.depot.station.val), kind := kind + 0x80#8,
                control := if attention s then 1#8 else 0#8, payload := byte1 a.status.code ++ a.data }

/-- A request frame to this station (R175–R179): supervision first, then the handler, then the reply. A
station whose pins read 0 answers no frame and does not act on it (log entry 15). -/
def depotRequest (kind : Byte) (h : Handler) (s : State) : State :=
  received (fun s =>
    let s1 := frameForStation s
    if s1.depot.station = 0 then s1.noReply
    else
      let r := h s1
      { r.1 with depot := { r.1.depot with reply := some (replyFrame kind r.2 r.1) } }) s

/-- The supervision timer has expired (R177, R129). -/
def supervisionExpired (s : State) : State :=
  match s.depot.link with
  | .online r => linkLoss (s.setLink (.hold r))
  | _ => s

/-- The hold timer has expired (R177). -/
def holdExpired (s : State) : State :=
  match s.depot.link with
  | .hold _ => s.setLink (.search .r9600)
  | _ => s

/-- The next rate of the hunt (R176). -/
def DepotRate.next : DepotRate → DepotRate
  | .r9600 => .r19200 | .r19200 => .r38400 | .r38400 => .r57600 | .r57600 => .r115200 | .r115200 => .r9600

/-- A hunt step has ended (R176). -/
def huntExpired (s : State) : State :=
  match s.depot.link with
  | .search r => s.setLink (.search r.next)
  | _ => s

/-! ### Fields -/

def kioskOf (b : Byte) : Option Kiosk := finOf 16 b.toNat

/-- A bank letter (R190). -/
def bankOf (b : Byte) : Option BankId := if b = 0x41#8 then some .a else if b = 0x42#8 then some .b else none

/-- A yes-or-no byte. -/
def boolOf (b : Byte) : Option Bool := if b = 0 then some false else if b = 1 then some true else none

/-- A date-time field as a real date and time (R169, R190). -/
def dateTimeOf (f : DateTimeField) : Option DateTime :=
  let d : DateTime := { year := 2000 + f.year.toNat, month := f.month.toNat, day := f.day.toNat,
                        hour := f.hour.toNat, minute := f.minute.toNat, second := f.second.toNat }
  if d.real then some d else none

/-- An effective minute field (R61, R190). -/
def minuteOf (f : MinuteField) : Option DateTime :=
  dateTimeOf { year := f.year, month := f.month, day := f.day, hour := f.hour, minute := f.minute, second := 0 }

/-- A printable character (section 8.1). -/
def printable (b : Byte) : Bool := decide (0x20 ≤ b.toNat ∧ b.toNat ≤ 0x7E)

/-- The characters of a text field of fixed width (R190, R192): none where a character is not printable or a
non-zero byte follows a 0x00. -/
def textOf (l : List Byte) : Option (List Byte) :=
  let t := l.takeWhile (fun b => decide (b ≠ 0))
  if (l.drop t.length).all (fun b => decide (b = 0)) = true ∧ t.all printable = true then some t else none

/-- A number within bounds. -/
def within (lo hi n : Nat) : Bool := decide (lo ≤ n ∧ n ≤ hi)

/-! ### STATUS-READ and CLOCK-SET (R169, R180) -/

def doStatusRead : Handler := readOut statusData

def doClockSet (f : DateTimeField) : Handler := fun s =>
  match dateTimeOf f with
  | none => refuse .badField s
  | some d => taken (setClock d) s

/-! ### The unbanked tables (R181) -/

def loopRateOf (b : Byte) : Option LoopRate := if b = 0 then some .r38400 else if b = 1 then some .r115200 else none
def doorEdgeOf (b : Byte) : Option DoorEdge :=
  if b = 0 then some .opening else if b = 1 then some .closing else if b = 2 then some .both else none
def loopIndexOf (b : Byte) : Option LoopId := if b = 0 then some .a else if b = 1 then some .b else none

/-- A LOOP write (R1, R181). One wrong in both its loop and a field is answered BAD_INDEX (DESIGN
CHOICE, log entry 35). -/
def doWriteLoop (index rate edge : Byte) : Handler := fun s =>
  match loopIndexOf index with
  | none => refuse .badIndex s
  | some l =>
    match loopRateOf rate, doorEdgeOf edge with
    | some r, some e => taken (fun s => s.setLoop l { s.loop l with rate := r, edge := e }) s
    | _, _ => refuse .badField s

/-- A KIOSK write (R6, R181). One wrong in both its kiosk and its value is answered BAD_INDEX (DESIGN CHOICE, log
entry 35). -/
def doWriteKiosk (index configured : Byte) : Handler := fun s =>
  match kioskOf index, boolOf configured with
  | none, _ => refuse .badIndex s
  | some _, none => refuse .badField s
  | some k, some true => if (s.link k).state = .unused then taken (configureKiosk k) s else taken id s
  | some k, some false =>
    if (s.link k).state = .unused then taken id s
    else if (s.sess k).state ≠ .idle then refuse .kioskBusy s
    else taken (unconfigureKiosk k) s

def calibOf (offset : Half) (gain : Byte) : Option Calib :=
  if offset.toNat ≤ 511 ∧ gain.toNat ≤ 3 then some { offset := offset.toNat, gain := gain.toNat } else none

/-- A CALIB write (R20). One wrong in both its kiosk and a field is answered BAD_INDEX (DESIGN CHOICE, log
entry 35). -/
def doWriteCalib (index : Byte) (u : CalibUnit) : Handler := fun s =>
  match kioskOf index with
  | none => refuse .badIndex s
  | some k =>
    match calibOf u.offset1 u.gain1, calibOf u.offset2 u.gain2, calibOf u.offset3 u.gain3 with
    | some c1, some c2, some c3 => taken (fun s => s.updCoin k (fun c => { c with calib1 := c1, calib2 := c2, calib3 := c3 })) s
    | _, _, _ => refuse .badField s

def useOf (b : Byte) : Option CoinUse := if b = 0 then some .accept else if b = 1 then some .refuse else none

/-- A COIN unit (R21): none for a field out of range. The fields behind the empty marker are ignored (section
12.5, below Table 12-7). -/
def coinOf (u : CoinUnit) : Option (Option CoinEntry) :=
  match boolOf u.valid, useOf u.use with
  | some false, _ => some none
  | some true, some use =>
    if within 1 500 u.value.toNat && decide (u.low1.toNat ≤ u.high1.toNat ∧ u.low2.toNat ≤ u.high2.toNat ∧ u.low3.toNat ≤ u.high3.toNat) then
      some (some { value := u.value.toNat, low1 := u.low1.toNat, high1 := u.high1.toNat, low2 := u.low2.toNat,
                   high2 := u.high2.toNat, low3 := u.low3.toNat, high3 := u.high3.toNat, use := use })
    else none
  | _, _ => none

/-- A COIN write (R21, R35). One wrong in both its index and a field is answered BAD_INDEX (DESIGN CHOICE, log
entry 35). -/
def doWriteCoin (index : Byte) (u : CoinUnit) : Handler := fun s =>
  match finOf 16 index.toNat, coinOf u with
  | none, _ => refuse .badIndex s
  | some _, none => refuse .badField s
  | some t, some e => taken (writeCoin t e) s

/-- A TUBE unit (R42): none for a field out of range. The marker none sets type, count and state alone, and the
bytes behind it are not judged (log entry 12). -/
def tubeOf (u : TubeUnit) (old : Tube) : Option Tube :=
  if u.coinType = 0xFF#8 then some { old with coinType := none, count := 0, state := .payable }
  else
    match (finOf 16 u.coinType.toNat : Option CoinType) with
    | none => none
    | some t =>
      if within 1 250 u.capacity.toNat && decide (u.count.toNat ≤ u.capacity.toNat ∧ u.lowMark.toNat ≤ u.capacity.toNat) then
        some { old with coinType := some t, capacity := u.capacity.toNat, count := u.count.toNat, lowMark := u.lowMark.toNat,
                        state := .payable }
      else none

/-- Another tube of the kiosk holds the coin type (R42). -/
def tubeTaken (tubes : Vector Tube 6) (n : TubeNo) (t : Option CoinType) : Bool :=
  t.isSome && allTubes.any (fun m => decide (m ≠ n ∧ (tubes[m]).coinType = t))

/-- A TUBE write (R42). Where several refusals hold, the first of the rule's table is given (DESIGN CHOICE, log
entry 35). -/
def doWriteTube (index tube : Byte) (u : TubeUnit) : Handler := fun s =>
  match kioskOf index, (finOf 6 tube.toNat : Option TubeNo) with
  | some k, some n =>
    let tubes := (s.cash k).tubes
    match tubeOf u tubes[n] with
    | none => refuse .badField s
    | some t =>
      if tubeTaken tubes n t.coinType then refuse .duplicate s
      else if (s.sess k).state ≠ .idle then refuse .kioskBusy s
      else taken (writeTube k n t) s
  | _, _ => refuse .badIndex s

/-- A setting's new table (Table 11-5): none for a value out of range. -/
def settingOf (x : Settings) (index v : Nat) : Option Settings :=
  match index with
  | 0 => if v ≤ 1439 then some { x with boundary := v } else none
  | 1 => if within 15 120 v then some { x with inactivity := v } else none
  | 2 => if within 2 20 v then some { x with authorisation := v } else none
  | 3 => if within 1 60 v then some { x with supervision := v } else none
  | 4 => (finOf 16 v).map (fun t => { x with saleTemplate := t })
  | 5 => (finOf 16 v).map (fun t => { x with topupTemplate := t })
  | _ => (finOf 16 v).map (fun t => { x with refundTemplate := t })

/-- A SETTINGS write (R171, R181): a boundary write judges the day roll at once. -/
def doWriteSettings (index : Byte) (value : Half) : Handler := fun s =>
  if 6 < index.toNat then refuse .badIndex s
  else
    match settingOf s.settings index.toNat value.toNat with
    | none => refuse .badField s
    | some x =>
      taken (fun s =>
        let s1 : State := { s with settings := x }
        if index.toNat = 0 ∧ s1.clock.state = .valid then judgeRoll s1 else s1) s

def conditionOf (b : Byte) : Option Condition :=
  match b.toNat with
  | 0 => some .always | 1 => some .ifCard | 2 => some .ifPaperPass | 3 => some .ifVoucher | 4 => some .ifUncertain
  | 5 => some .ifRefund | _ => none

def fieldOf (b : Byte) : Option Field :=
  match b.toNat with
  | 0 => some .saleTime | 1 => some .kiosk | 2 => some .serial | 3 => some .productName | 4 => some .zones
  | 5 => some .cls | 6 => some .qty | 7 => some .due | 8 => some .paid | 9 => some .change | 10 => some .voucher
  | 11 => some .cardNo | 12 => some .newBalance | 13 => some .topupStatus | 14 => some .validFrom
  | 15 => some .validUntil | _ => none

def formatOf (b : Byte) : Option Format :=
  match b.toNat with
  | 0 => some .money | 1 => some .number | 2 => some .date | 3 => some .time | 4 => some .text | _ => none

/-- The formats a field's row of Table 8-2 allows. -/
def Field.allows (f : Field) (m : Format) : Bool :=
  match f, m with
  | .saleTime, .date => true
  | .saleTime, .time => true
  | .kiosk, .number => true
  | .serial, .number => true
  | .productName, .text => true
  | .zones, .number => true
  | .cls, .text => true
  | .qty, .number => true
  | .due, .money => true
  | .paid, .money => true
  | .change, .money => true
  | .voucher, .money => true
  | .cardNo, .text => true
  | .newBalance, .money => true
  | .topupStatus, .text => true
  | .validFrom, .date => true
  | .validUntil, .date => true
  | _, _ => false

/-- The body of a line record (Tables 8-1 and 12-7): bytes beyond those the kind uses are ignored (below
Table 12-7). -/
def bodyOf (kind : Byte) (body : List Byte) : Option LineBody :=
  match kind.toNat with
  | 1 => (textOf (body.take 32)).bind (fun t => if t = [] then none else some (.text t))
  | 2 =>
    match textOf (body.take 16), fieldOf (byteAt body 16), formatOf (byteAt body 17) with
    | some label, some f, some m => if f.allows m then some (.field label f m) else none
    | _, _, _ => none
  | 3 => if printable (byteAt body 0) then some (.rule (byteAt body 0)) else none
  | 4 => if within 1 3 (byteAt body 0).toNat then some (.feed (byteAt body 0).toNat) else none
  | 5 =>
    if byteAt body 0 = 0xFF#8 then some (.ref .product)
    else (finOf 16 (byteAt body 0).toNat).map (fun t => .ref (.template t))
  | _ => none

/-- A TEMPLATE unit (R140): none for a field out of range, `some none` for the empty marker. The fields behind the
empty marker are ignored (below Table 12-7). -/
def templateOf (u : TemplateUnit) : Option (Option LineRecord) :=
  if u.kind = 0 then some none
  else
    match conditionOf u.condition, bodyOf u.kind u.body with
    | some c, some b => some (some { condition := c, body := b })
    | _, _ => none

/-- A TEMPLATE write (R140). One wrong in both an index and a field is answered BAD_INDEX (DESIGN CHOICE, log
entry 35). -/
def doWriteTemplate (index place : Byte) (u : TemplateUnit) : Handler := sized u.body 32 <| fun s =>
  match (finOf 16 index.toNat : Option (Fin 16)), (finOf 24 place.toNat : Option (Fin 24)) with
  | some t, some p =>
    match templateOf u with
    | none => refuse .badField s
    | some r => taken (fun s => { s with templates := s.templates.set t ((s.templates[t]).set p r) }) s
  | _, _ => refuse .badIndex s

/-- TABLE-READs of the unbanked tables (R1, R20, R21, R42, R140, R181, R192). -/
def doReadLoop (index : Byte) : Handler := fun s =>
  match loopIndexOf index with
  | none => refuse .badIndex s
  | some l => readOut (fun s => byte1 (s.loop l).rate.code ++ byte1 (s.loop l).edge.code) s

def doReadKiosk (index : Byte) : Handler := fun s =>
  match kioskOf index with
  | none => refuse .badIndex s
  | some k => readOut (fun s => flagByte (decide ((s.link k).state ≠ .unused)) ++ byte1 (s.link k).state.code) s

def doReadCalib (index : Byte) : Handler := fun s =>
  match kioskOf index with
  | none => refuse .badIndex s
  | some k => readOut (fun s => (s.coin k).calib1.bytes ++ (s.coin k).calib2.bytes ++ (s.coin k).calib3.bytes) s

def doReadCoin (index : Byte) : Handler := fun s =>
  match (finOf 16 index.toNat : Option CoinType) with
  | none => refuse .badIndex s
  | some t => readOut (fun s => CoinEntry.bytes s.coins[t]) s

/-- A TUBE read answers the six records of the kiosk; the sub-index is not judged (DESIGN CHOICE, log entry 36). -/
def doReadTube (index : Byte) : Handler := fun s =>
  match kioskOf index with
  | none => refuse .badIndex s
  | some k => readOut (fun s => (s.cash k).tubes.toList.flatMap Tube.bytes) s

/-- A SETTINGS read answers all seven settings; the index is not judged (DESIGN CHOICE, log entry 36). -/
def doReadSettings : Handler := readOut (fun s => s.settings.bytes)

def doReadTemplate (index place : Byte) : Handler := fun s =>
  match (finOf 16 index.toNat : Option (Fin 16)), (finOf 24 place.toNat : Option (Fin 24)) with
  | some t, some p => readOut (fun s => LineRecord.bytes (s.templates[t])[p]) s
  | _, _ => refuse .badIndex s

/-! ### The banked tables (R55–R60) -/

/-- A banked write (R55): `f` judges the index and the unit, and gives the bank with its unit replaced. -/
def bankedWrite (bank : Byte) (f : Bank → Except Status Bank) : Handler := fun s =>
  match bankOf bank with
  | none => refuse .badField s
  | some i =>
    if (s.tariff.bank i).state = .active then refuse .activeBank s
    else if s.tariff.switch.isSome then refuse .switchPending s
    else
      match f (s.tariff.bank i) with
      | .error st => refuse st s
      | .ok b => taken (fun s => { s with tariff := s.tariff.setBank i { b with state := .editing } }) s

/-- A HEADER unit (R56). -/
def headerOf (u : HeaderUnit) : Option Header :=
  let hundred (n : Nat) : Bool := within 100 50000 n && decide (n % 100 = 0)
  let ok := decide (u.set = 1) && decide (u.step.toNat ∈ [1, 2, 5, 10, 20, 50]) && within 1 99999 u.maxSale.toNat &&
    decide (u.fee.toNat ≤ 500) && hundred u.topupMin.toNat && hundred u.topupMax.toNat && within 1 99999 u.cardMax.toNat &&
    decide (u.offlineLimit.toNat ≤ 50000) && u.denominations.all (fun d => decide (d.toNat = 0) || hundred d.toNat)
  if ok then
    some { step := u.step.toNat, maxSale := u.maxSale.toNat, fee := u.fee.toNat, topupMin := u.topupMin.toNat,
           topupMax := u.topupMax.toNat, cardMax := u.cardMax.toNat, offlineLimit := u.offlineLimit.toNat,
           denominations := u.denominations.map (·.toNat) }
  else none

/-- A HEADER write (R55, R56). Table 4-1 gives the header no index, and the index byte is not judged (DESIGN CHOICE,
log entry 36). -/
def doWriteHeader (bank : Byte) (u : HeaderUnit) : Handler := sized u.denominations 8 <|
  bankedWrite bank (fun b =>
    match headerOf u with
    | none => .error .badField
    | some h => .ok { b with header := some h })

def productKindOf (b : Byte) : Option ProductKind := if b = 0 then some .single else if b = 1 then some .pass else none
def carriersOf (b : Byte) : Option Carriers :=
  if b = 0 then some .paper else if b = 1 then some .card else if b = 2 then some .both else none
/-- A class-allowed set from its bit map; a bit beyond the four classes is out of range (DEDUCED, log entry 23). -/
def classSetOf (b : Byte) : Option ClassSet :=
  if b.toNat < 16 then
    some { adult := b.getLsbD 0, child := b.getLsbD 1, senior := b.getLsbD 2, concession := b.getLsbD 3 }
  else none

/-- The fields of a PRODUCT unit (R57). -/
def productOf (u : ProductUnit) : Option Product :=
  match textOf (u.name.take 20), productKindOf u.kind, carriersOf u.carriers, classSetOf u.classes with
  | some name, some kind, some carriers, some classes =>
    match (finOf 16 u.fareRow.toNat : Option (Fin 16)), (finOf 4 u.bandGroup.toNat : Option (Fin 4)),
      (finOf 4 u.discountGroup.toNat : Option (Fin 4)), (finOf 16 u.template.toNat : Option (Fin 16)) with
    | some row, some band, some discount, some template =>
      if within 1 9999 u.code.toNat && decide (name ≠ []) && within 1 9 u.maxQuantity.toNat &&
          (match kind with | .single => decide (u.days.toNat = 0) | .pass => within 1 31 u.days.toNat) then
        some { code := u.code.toNat, name := name, kind := kind, days := u.days.toNat, carriers := carriers, fareRow := row,
               bandGroup := band, discountGroup := discount, classes := classes, template := template,
               maxQuantity := u.maxQuantity.toNat }
      else none
    | _, _, _, _ => none
  | _, _, _, _ => none

/-- Another valid entry of the bank, at a different index, holds the code (R57). -/
def codeTaken (b : Bank) (i : Fin 64) (code : Nat) : Bool :=
  (b.products.set i none).toList.any (fun p => match p with | some p => decide (p.code = code) | none => false)

/-- A PRODUCT write (R55, R57). One with a field out of range whose code another entry holds is answered BAD_FIELD
(DESIGN CHOICE, log entry 35); the fields behind the empty marker are ignored (below Table 12-7). -/
def doWriteProduct (bank index : Byte) (u : ProductUnit) : Handler := sized u.name 20 <|
  bankedWrite bank (fun b =>
    match (finOf 64 index.toNat : Option (Fin 64)), boolOf u.valid with
    | none, _ => .error .badIndex
    | some _, none => .error .badField
    | some i, some false => .ok { b with products := b.products.set i none }
    | some i, some true =>
      match productOf u with
      | none => .error .badField
      | some p => if codeTaken b i p.code then .error .duplicate else .ok { b with products := b.products.set i (some p) })

/-- A fare cell (R58): an amount up to 60,000 or NOT_SOLD. -/
def fareCellOf (c : Half) : Option (Option Nat) :=
  if c = 0xFFFF#16 then some none else if c.toNat ≤ 60000 then some (some c.toNat) else none

def doWriteFare (bank index : Byte) (cells : List Half) : Handler := sized cells 8 <|
  bankedWrite bank (fun b =>
    match (finOf 16 index.toNat : Option (Fin 16)), cells.mapM fareCellOf with
    | none, _ => .error .badIndex
    | some _, none => .error .badField
    | some i, some l => .ok { b with fares := b.fares.set i l })

def doWriteBand (bank index : Byte) (factors : List Half) : Handler := sized factors 4 <|
  bankedWrite bank (fun b =>
    match (finOf 4 index.toNat : Option (Fin 4)) with
    | none => .error .badIndex
    | some i =>
      if factors.all (fun f => within 500 2000 f.toNat) then .ok { b with bands := b.bands.set i (factors.map (·.toNat)) }
      else .error .badField)

/-- A band of a day plan (R59). -/
def bandSlotOf (x : BandSlot) : Option Band :=
  if x.start.toNat ≤ 1439 then (finOf 4 x.cls.toNat).map (fun c => { start := x.start.toNat, cls := c }) else none

/-- Starts strictly ascending (R59). -/
def ascending : List Band → Bool
  | x :: y :: l => decide (x.start < y.start) && ascending (y :: l)
  | _ => true

/-- A DAYPLAN unit (R59, Table 12-7): slots beyond the count are not judged (DESIGN CHOICE, log entry 36). -/
def planOf (u : DayplanUnit) : Option (List Band) :=
  if within 1 6 u.count.toNat then
    match (u.slots.take u.count.toNat).mapM bandSlotOf with
    | some l => if ascending l then some l else none
    | none => none
  else none

def doWriteDayplan (bank index : Byte) (u : DayplanUnit) : Handler := sized u.slots 6 <|
  bankedWrite bank (fun b =>
    match (finOf 4 index.toNat : Option (Fin 4)), planOf u with
    | none, _ => .error .badIndex
    | some _, none => .error .badField
    | some i, some l => .ok { b with plans := b.plans.set i (some l) })

def doWriteClass (bank index : Byte) (percents : List Byte) : Handler := sized percents 4 <|
  bankedWrite bank (fun b =>
    match (finOf 4 index.toNat : Option (Fin 4)) with
    | none => .error .badIndex
    | some i =>
      if percents.all (fun p => decide (p.toNat ≤ 100)) then .ok { b with classes := b.classes.set i (percents.map (·.toNat)) }
      else .error .badField)

/-- A HOLIDAY write (R55, R59). The day behind the empty marker is ignored (below Table 12-7). -/
def doWriteHoliday (bank index : Byte) (u : HolidayUnit) : Handler :=
  bankedWrite bank (fun b =>
    match (finOf 32 index.toNat : Option (Fin 32)), boolOf u.valid with
    | none, _ => .error .badIndex
    | some _, none => .error .badField
    | some i, some false => .ok { b with holidays := b.holidays.set i none }
    | some i, some true =>
      if u.day.toNat ≤ Config.lastServiceDay then .ok { b with holidays := b.holidays.set i (some u.day.toNat) }
      else .error .badField)

/-- The unit of a banked table as read (R60): none for an index out of range. Table 4-1 gives the header no index,
and its index byte is not judged (DESIGN CHOICE, log entry 36). -/
def bankedUnit (b : Bank) (t : BankedTable) (index : Nat) : Option (List Byte) :=
  match t with
  | .header => some (Header.bytes b.header)
  | .product => (finOf 64 index : Option (Fin 64)).map (fun i => Product.bytes b.products[i])
  | .fare => (finOf 16 index : Option (Fin 16)).map (fun i => fareBytes b.fares[i])
  | .band => (finOf 4 index : Option (Fin 4)).map (fun i => (b.bands[i]).flatMap (beBytes 2))
  | .dayplan => (finOf 4 index : Option (Fin 4)).map (fun i => planBytes b.plans[i])
  | .cls => (finOf 4 index : Option (Fin 4)).map (fun i => (b.classes[i]).flatMap byte1)
  | .holiday => (finOf 32 index : Option (Fin 32)).map (fun i => holidayBytes b.holidays[i])

/-- A banked TABLE-READ (R60). One wrong in both its letter and its index is answered BAD_FIELD (DESIGN CHOICE, log
entry 35). -/
def doReadBanked (t : BankedTable) (bank index : Byte) : Handler := fun s =>
  match bankOf bank with
  | none => refuse .badField s
  | some i =>
    match bankedUnit (s.tariff.bank i) t index.toNat with
    | none => refuse .badIndex s
    | some l => readOut (fun _ => l) s

/-! ### The bank switch (R61, R62) -/

/-- BANK-SWITCH (R61). -/
def doBankSwitch (bank : Byte) (minute : MinuteField) : Handler := fun s =>
  match bankOf bank, minuteOf minute with
  | some i, some t =>
    if s.clock.state = .invalid then refuse .clockUnset s
    else if (s.tariff.bank i).state = .active then refuse .activeBank s
    else if s.tariff.switch.isSome then refuse .switchPending s
    else
      let b := s.tariff.bank i
      match validateBank s b with
      | some (table, index) =>
        ({ s with tariff := s.tariff.setBank i { b with state := .editing } },
         { status := .bankInvalid, data := byte1 table ++ byte1 index })
      | none =>
        taken (fun s =>
          let s1 : State := { s with tariff := s.tariff.setBank i { b with state := .valid } }
          if s.clock.dateTime.minutes < t.minutes then
            { s1 with tariff := { s1.tariff with switch := some { bank := i, minute := t } } }
          else makeSwitch i s1) s
  | _, _ => refuse .badField s

/-- SWITCH-CANCEL (R62). -/
def doSwitchCancel : Handler := fun s =>
  match s.tariff.switch with
  | none => refuse .notFound s
  | some _ => taken (fun s => { s with tariff := { s.tariff with switch := none } }) s

/-! ### The stop-list (R122, R123) -/

def doStoplistAdd (number : Word) : Handler := fun s =>
  let n := number.toNat
  if n = 0 then refuse .badField s
  else if s.stopListed n then refuse .already s
  else if Config.stopListMax ≤ s.cards.stopList.length then refuse .full s
  else taken (fun s => allKiosks.foldl (fun t k => stopListHit n k t) (s.setStop (insertStop n s.cards.stopList))) s

def doStoplistRemove (number : Word) : Handler := fun s =>
  let n := number.toNat
  if n = 0 then refuse .badField s
  else if s.stopListed n then taken (fun s => s.setStop (s.cards.stopList.filter (fun m => decide (m ≠ n)))) s
  else refuse .notFound s

def doStoplistClear : Handler := taken (fun s => s.setStop [])

/-! ### The journal (R161, R162) -/

def doJournalRead : Handler := fun s =>
  match s.journal.records with
  | [] => refuse .empty s
  | r :: _ => readOut (fun s => beBytes 2 s.journal.records.length ++ r.bytes) s

def doJournalPop : Handler := fun s =>
  match s.journal.records with
  | [] => refuse .empty s
  | r :: rs => (popRecord s, { status := .ok, data := byte1 r.kiosk.val ++ beBytes 2 r.serial ++ beBytes 2 rs.length })

/-! ### Authorisations (R125, R126, R128) -/

/-- AUTH-FETCH (R125): the oldest four, with their fetched field as it stood. -/
def doAuthFetch : Handler := fun s =>
  let l := s.cards.authList.take Config.fetchMax
  ({ s with cards := { s.cards with
      authList := l.map (fun e => { e with fetched := true }) ++ s.cards.authList.drop Config.fetchMax } },
   { status := .ok, data := byte1 l.length ++ l.flatMap AuthEntry.bytes })

/-- An answer that matches no listed entry, judged against the last-request record (R128). -/
def unmatchedAnswer (last : Option LastRequest) (serial attempt : Nat) (grant : Bool) : Status :=
  match last with
  | none => .noSuchRequest
  | some r =>
    if r.serial ≠ serial then .noSuchRequest
    else if attempt = r.attempt then
      if (grant = true ∧ r.conclusion = .grant) ∨ (grant = false ∧ r.conclusion = .deny) then .ok else .late
    else if attempt < r.attempt then .late
    else .noSuchRequest

/-- AUTH-ANSWER (R126, R128). One wrong in both its kiosk and its attempt or decision is answered BAD_INDEX (DESIGN
CHOICE, log entry 35). -/
def doAuthAnswer (kiosk : Byte) (serial : Half) (attempt decision : Byte) : Handler := fun s =>
  match kioskOf kiosk with
  | none => refuse .badIndex s
  | some k =>
    if attempt = 0 ∨ 1 < decision.toNat then refuse .badField s
    else
      let grant := decide (decision = 0)
      if s.cards.authList.any (fun e => decide (e.kiosk = k ∧ e.serial = serial.toNat ∧ e.attempt = attempt.toNat)) then
        taken (fun s =>
          if grant then sessionGranted k .grantedOnline 0 (conclude k .grant (unlist k s))
          else sessionDenied k .denied (conclude k .deny (unlist k s))) s
      else refuse (unmatchedAnswer (s.kcard k).lastRequest serial.toNat attempt.toNat grant) s

/-! ### Events (R185, R186) -/

def doEventsRead : Handler := readOut eventsData

/-- The kinds an event set names; none when it names a kind number above 23. -/
def eventSetOf (w : Word) : Option (List EventKind) :=
  if w.toNat < 2 ^ 24 then some (allEvents.filter (fun e => w.getLsbD e.no.val)) else none

/-- EVENTS-CLEAR of some kinds (R186, R134): the named pending kinds leave, then each removed level kind whose
condition holds enters again; FLOAT_EXHAUSTED is judged whenever it is named. -/
def clearEvents (named : List EventKind) (s : State) : State :=
  let gone := named.filter (fun e => (s.depot.events[e.no]).on)
  let s1 := gone.foldl (fun t e => clearEvent e t) s
  let again := levelEvents.filter (fun e => decide (e ∈ gone) || decide (e = .floatExhausted ∧ e ∈ named))
  again.foldl (fun t e => raiseLevel e t) s1

def doEventsClear (kinds : Word) : Handler := fun s =>
  match eventSetOf kinds with
  | none => refuse .badField s
  | some l => let s1 := clearEvents l s; (s1, { status := .ok, data := pendingBytes s1 })

/-- The mask that leaves some kinds unmasked (R185). -/
def maskOf (l : List EventKind) : Vector Bool 24 :=
  l.foldl (fun m e => m.set e.no true) (Vector.replicate 24 false)

def doEventsMask (kinds : Word) : Handler := fun s =>
  match eventSetOf kinds with
  | none => refuse .badField s
  | some l => taken (fun s => { s with depot := { s.depot with unmasked := maskOf l } }) s

/-! ### KIOSK-CONTROL and KIOSK-READ (R182, R183) -/

/-- A KIOSK-CONTROL with an owner's action, or the status it refuses with (R182). -/
def kioskControl (kiosk : Byte) (refused : Kiosk → State → Bool) (act : Kiosk → State → State) : Handler := fun s =>
  match kioskOf kiosk with
  | none => refuse .badIndex s
  | some k =>
    if (s.link k).state = .unused then refuse .notFound s
    else if refused k s then refuse .causeActive s
    else
      let s1 := act k s
      (s1, { status := .ok, data := flagByte (s1.svc k).out ++ byte1 (s1.cash k).inlet.state.code })

/-- An action its owner never refuses. -/
def never (_ : Kiosk) (_ : State) : Bool := false

def doInService (kiosk : Byte) : Handler := kioskControl kiosk never (fun k => setService k (fun v => { v with server := false }))
def doOutOfService (kiosk : Byte) : Handler := kioskControl kiosk never (fun k => setService k (fun v => { v with server := true }))
def doBlock (kiosk : Byte) : Handler := kioskControl kiosk never inletBlock
def doRelease (kiosk : Byte) : Handler := kioskControl kiosk releaseRefused inletRelease
def doModeLatched (kiosk : Byte) : Handler := kioskControl kiosk never (fun k => inletMode k .latched)
def doModeFollowing (kiosk : Byte) : Handler := kioskControl kiosk never (fun k => inletMode k .following)

/-- KIOSK-READ (R19, R183): the door report flag is cleared after the reply is built. -/
def doKioskRead (kiosk : Byte) : Handler := fun s =>
  match kioskOf kiosk with
  | none => refuse .badIndex s
  | some k => (s.updLink k (fun l => { l with doorReport := false }), { status := .ok, data := kioskData k s })

/-! ### FLOAT-SET, MODE-SET and RESTART (R134, R187, R188) -/

def doFloatSet (value : Triple) : Handler := fun s =>
  if Config.floatMax < value.toNat then refuse .badField s
  else if value.toNat < s.heldTotal then refuse .floatTooLow s
  else taken (setFloat value.toNat) s

/-- Every session is IDLE (R101). -/
def allIdle (s : State) : Bool := allKiosks.all (fun k => decide ((s.sess k).state = .idle))

/-- The part mode is set and shown (R187). -/
def changeMode (m : PartMode) (s : State) : State :=
  allKiosks.foldl (fun t k => modeShownAt k t) { s with depot := { s.depot with mode := m } }

def doModeLoading : Handler := fun s =>
  if s.depot.mode = .loading then taken id s
  else if allIdle s = false then refuse .busy s
  else taken (changeMode .loading) s

/-- TABLES_INCOMPLETE with the table code and the index of the first missing item (R187, R192). -/
def incomplete (table index : Nat) : Handler := fun s =>
  (s, { status := .tablesIncomplete, data := byte1 table ++ byte1 index })

/-- A configured kiosk without a tube in use (Table 11-9). -/
def lacksTubes (s : State) (k : Kiosk) : Bool :=
  decide ((s.link k).state ≠ .unused) && allTubes.all (fun n => ((s.cash k).tubes[n]).coinType.isNone)

def doModeSelling : Handler := fun s =>
  if s.depot.mode = .selling then taken id s
  else if s.clock.state = .invalid then refuse .clockUnset s
  else if s.tariff.active = none then incomplete 7 0 s
  else if (s.coins.toList.all (fun e => match e with | some e => decide (e.use ≠ .accept) | none => true)) then incomplete 3 0 s
  else
    match allKiosks.find? (lacksTubes s) with
    | some k => incomplete 4 k.val s
    | none => taken (changeMode .selling) s

def doModeSuspended : Handler := fun s =>
  if s.depot.mode = .suspended then taken id s
  else if s.depot.mode = .loading then refuse .wrongMode s
  else taken (changeMode .suspended) s

/-- RESTART (R188): answered OK; the warm restart follows its reply. -/
def doRestart : Handler := taken (fun s => { s with depot := { s.depot with restartOwed := true } })

/-! ### Requests refused by their envelope (R179, R181, R192) -/

/-- The answer to a request that no row reads (R179, R181, R182, R187, R192). A KIOSK-CONTROL of an unlisted action
is judged by its kiosk's range first, and before the kiosk table (log entry 30). -/
def envelopeAnswer (kind : Byte) (p : List Byte) : Status :=
  if kind.toNat < 0x40 ∨ 0x54 < kind.toNat then .badKind
  else
    match requestLength kind p with
    | some n => if n ≠ p.length then .badLength else if kind = 0x50#8 ∧ (kioskOf (byteAt p 0)).isNone then .badIndex else .badField
    | none => .badField

/-- The handler of a request row; none for a command that is no request. -/
def handlerOf : Instr → Option Handler
  | .statusRead => some doStatusRead
  | .clockSet d => some (doClockSet d)
  | .tableWriteLoop i r e => some (doWriteLoop i r e)
  | .tableWriteKiosk i c => some (doWriteKiosk i c)
  | .tableWriteCalib i u => some (doWriteCalib i u)
  | .tableWriteCoin i u => some (doWriteCoin i u)
  | .tableWriteTube i t u => some (doWriteTube i t u)
  | .tableWriteSettings i v => some (doWriteSettings i v)
  | .tableWriteTemplate i p u => some (doWriteTemplate i p u)
  | .tableWriteHeader b u => some (doWriteHeader b u)
  | .tableWriteProduct b i u => some (doWriteProduct b i u)
  | .tableWriteFare b i c => some (doWriteFare b i c)
  | .tableWriteBand b i f => some (doWriteBand b i f)
  | .tableWriteDayplan b i u => some (doWriteDayplan b i u)
  | .tableWriteClass b i p => some (doWriteClass b i p)
  | .tableWriteHoliday b i u => some (doWriteHoliday b i u)
  | .tableReadLoop i => some (doReadLoop i)
  | .tableReadKiosk i => some (doReadKiosk i)
  | .tableReadCalib i => some (doReadCalib i)
  | .tableReadCoin i => some (doReadCoin i)
  | .tableReadTube i => some (doReadTube i)
  | .tableReadSettings => some doReadSettings
  | .tableReadTemplate i p => some (doReadTemplate i p)
  | .tableReadBanked t b i => some (doReadBanked t b i)
  | .bankSwitch b m => some (doBankSwitch b m)
  | .switchCancel => some doSwitchCancel
  | .stoplistAdd n => some (doStoplistAdd n)
  | .stoplistRemove n => some (doStoplistRemove n)
  | .stoplistClear => some doStoplistClear
  | .journalRead => some doJournalRead
  | .journalPop => some doJournalPop
  | .authFetch => some doAuthFetch
  | .authAnswer k s a d => some (doAuthAnswer k s a d)
  | .eventsRead => some doEventsRead
  | .eventsClear e => some (doEventsClear e)
  | .eventsMask e => some (doEventsMask e)
  | .kioskControlInService k => some (doInService k)
  | .kioskControlOutOfService k => some (doOutOfService k)
  | .kioskControlBlock k => some (doBlock k)
  | .kioskControlRelease k => some (doRelease k)
  | .kioskControlModeLatched k => some (doModeLatched k)
  | .kioskControlModeFollowing k => some (doModeFollowing k)
  | .kioskRead k => some (doKioskRead k)
  | .floatSet f => some (doFloatSet f)
  | .modeSetLoading => some doModeLoading
  | .modeSetSelling => some doModeSelling
  | .modeSetSuspended => some doModeSuspended
  | .restart => some doRestart
  | _ => none

/-- A request with a raw kind and payload: the row it spells, or the refusal of its envelope. -/
def doRaw (kind : Byte) (p : List Byte) : Handler := fun s =>
  match handlerOf (decodeRequest kind p) with
  | some h => h s
  | none => refuse (envelopeAnswer kind p) s

end Sys2Proof.Machine
end

