-- ==== Sys2Proof/Machine/Exchanges.lean ====
section
/-! DEFINITION. The meanings of the exchanges that end as a miss (R3). -/

namespace Sys2Proof.Machine

/-- FRAME_ABANDONED (R2). -/
def execFrameAbandoned (l : LoopId) (_cause : AbandonCause) (s : State) : Host.Outcome State Fault Refusal :=
  .next (missExchange l s)

/-- MISS_NO_REPLY (R3). -/
def execMissNoReply (l : LoopId) (s : State) : Host.Outcome State Fault Refusal :=
  .next (missExchange l s)

/-- MISS_BAD_CHECK (R3). -/
def execMissBadCheck (l : LoopId) (s : State) : Host.Outcome State Fault Refusal :=
  .next (missExchange l s)

/-- MISS_WRONG_ADDRESS (R3). -/
def execMissWrongAddress (l : LoopId) (s : State) : Host.Outcome State Fault Refusal :=
  .next (missExchange l s)

end Sys2Proof.Machine
end

