-- ==== Sys2Proof/Machine/Frames.lean ====
section
/-! DEFINITION. The meanings of the depot frames that earn no reply or are refused by their envelope (R175–R179). -/

namespace Sys2Proof.Machine

/-- DEPOT_BAD_FRAME (R175). -/
def execDepotBadFrame (s : State) : Host.Outcome State Fault Refusal :=
  .next (received State.noReply s)

/-- DEPOT_FRAME_OTHER_STATION (R176). -/
def execDepotFrameOtherStation (s : State) : Host.Outcome State Fault Refusal :=
  .next (received (fun s => (frameForOther s).noReply) s)

/-- DEPOT_FRAME_NO_REPLY (R177). -/
def execDepotFrameNoReply (s : State) : Host.Outcome State Fault Refusal :=
  .next (received (fun s => (frameForStation s).noReply) s)

/-- BAD_KIND (R179). -/
def execBadKind (kind : Byte) (payload : List Byte) (s : State) : Host.Outcome State Fault Refusal :=
  .next (if 128 ≤ kind.toNat then received (fun s => (frameForStation s).noReply) s else depotRequest kind (doRaw kind payload) s)

end Sys2Proof.Machine
end

