-- ==== Sys2Proof/Machine/Replies.lean ====
section
/-! DEFINITION. The meanings of the good replies (R4, Table 12-4): the exchange ends, and the payload of a PRESENT
kiosk is delivered by its kind. -/

namespace Sys2Proof.Machine

/-- A payload out of the ranges of Table 12-4 is malformed and is not delivered (R191). -/
def deliverIf (good : Bool) (f : Kiosk → State → State) : Kiosk → State → State := fun k s => if good then f k s else s

/-- The delivery of a well-formed reply by its kind (R4). -/
def deliverReply (i : Instr) (k : Kiosk) (s : State) : State :=
  match i with
  | .status _ _ d c p v => statusFrame d c p v k s
  | .keySelect _ _ item => keySelectFrame k item s
  | .keyConfirm _ _ => keyConfirmFrame k s
  | .keyCancel _ _ => keyCancelFrame k s
  | .keyReceiptYes _ _ => keyReceiptFrame k true s
  | .keyReceiptNo _ _ => keyReceiptFrame k false s
  | .coin _ _ r1 r2 r3 => coinFrame k r1 r2 r3 s
  | .landed _ _ d => landedFrame k d s
  | .cardImage _ _ c => cardImageFrame k c s
  | .cardRemoval _ _ => cardRemovalFrame k s
  | .cardResult _ _ r card counter => cardResultFrame k r card counter s
  | .payReport _ _ counts => payReportFrame k counts s
  | .printRdy _ _ slots => printReady k slots s
  | .fill _ _ counts => applyFill k counts s
  | _ => s

/-- A raw payload: discarded whole where it is malformed, delivered where it spells another row (R191). -/
def deliverRaw (kind : Byte) (payload : List Byte) (k : Kiosk) (s : State) : State :=
  match parseReply .a false kind payload with
  | some i => deliverReply i k s
  | none => s

/-- NIL (R4). -/
def execNil (l : LoopId) (a : Bool) (s : State) : Host.Outcome State Fault Refusal :=
  .next (goodReply l a (fun _ t => t) s)

/-- MALFORMED_REPLY (R191). -/
def execMalformedReply (l : LoopId) (a : Bool) (kind : Byte) (payload : List Byte) (s : State) : Host.Outcome State Fault Refusal :=
  .next (goodReply l a (deliverRaw kind payload) s)

/-- STATUS (R17). -/
def execStatus (l : LoopId) (a : Bool) (door : DoorIn) (cashbox : CashboxIn) (paper : PaperIn) (service : ServiceIn) (s : State) : Host.Outcome State Fault Refusal :=
  .next (goodReply l a (statusFrame door cashbox paper service) s)

/-- KEY_SELECT (R78). -/
def execKeySelect (l : LoopId) (a : Bool) (item : SelectItem) (s : State) : Host.Outcome State Fault Refusal :=
  .next (goodReply l a (deliverIf item.wellFormed (fun k => keySelectFrame k item)) s)

/-- KEY_CONFIRM (R81). -/
def execKeyConfirm (l : LoopId) (a : Bool) (s : State) : Host.Outcome State Fault Refusal :=
  .next (goodReply l a keyConfirmFrame s)

/-- KEY_CANCEL (R86). -/
def execKeyCancel (l : LoopId) (a : Bool) (s : State) : Host.Outcome State Fault Refusal :=
  .next (goodReply l a keyCancelFrame s)

/-- KEY_RECEIPT_YES (R95). -/
def execKeyReceiptYes (l : LoopId) (a : Bool) (s : State) : Host.Outcome State Fault Refusal :=
  .next (goodReply l a (fun k => keyReceiptFrame k true) s)

/-- KEY_RECEIPT_NO (R95). -/
def execKeyReceiptNo (l : LoopId) (a : Bool) (s : State) : Host.Outcome State Fault Refusal :=
  .next (goodReply l a (fun k => keyReceiptFrame k false) s)

/-- COIN (R29). -/
def execCoin (l : LoopId) (a : Bool) (r1 : Nat) (r2 : Nat) (r3 : Nat) (s : State) : Host.Outcome State Fault Refusal :=
  .next (goodReply l a (deliverIf (decide (r1 ≤ 1023 ∧ r2 ≤ 1023 ∧ r3 ≤ 1023)) (fun k => coinFrame k r1 r2 r3)) s)

/-- LANDED (R32). -/
def execLanded (l : LoopId) (a : Bool) (dest : Dest) (s : State) : Host.Outcome State Fault Refusal :=
  .next (goodReply l a (fun k => landedFrame k dest) s)

/-- CARD_IMAGE (R79). -/
def execCardImage (l : LoopId) (a : Bool) (image : CardImage) (s : State) : Host.Outcome State Fault Refusal :=
  .next (goodReply l a (deliverIf image.wellFormed (fun k => cardImageFrame k image)) s)

/-- CARD_REMOVAL (R79). -/
def execCardRemoval (l : LoopId) (a : Bool) (s : State) : Host.Outcome State Fault Refusal :=
  .next (goodReply l a cardRemovalFrame s)

/-- CARDRESULT (R136). -/
def execCardResult (l : LoopId) (a : Bool) (result : CardOutcome) (card : Nat) (counter : Nat) (s : State) : Host.Outcome State Fault Refusal :=
  .next (goodReply l a (fun k => cardResultFrame k result card counter) s)

/-- PAYREPORT (R44). -/
def execPayReport (l : LoopId) (a : Bool) (counts : Vector Nat 6) (s : State) : Host.Outcome State Fault Refusal :=
  .next (goodReply l a (deliverIf (countsWellFormed counts) (fun k => payReportFrame k counts)) s)

/-- PRINTRDY (R149). -/
def execPrintRdy (l : LoopId) (a : Bool) (slots : Nat) (s : State) : Host.Outcome State Fault Refusal :=
  .next (goodReply l a (deliverIf (decide (1 ≤ slots ∧ slots ≤ 8)) (fun k => printReady k slots)) s)

/-- FILL (R46). -/
def execFill (l : LoopId) (a : Bool) (counts : Vector Nat 6) (s : State) : Host.Outcome State Fault Refusal :=
  .next (goodReply l a (deliverIf (countsWellFormed counts) (fun k => applyFill k counts)) s)

end Sys2Proof.Machine
end

