-- ==== Sys2Proof/Machine/Requests.lean ====
section
/-! DEFINITION. The meanings of the other requests of the depot line (Table 11-3). -/

namespace Sys2Proof.Machine

/-- STATUS_READ (R180). -/
def execStatusRead (s : State) : Host.Outcome State Fault Refusal :=
  .next (depotRequest 0x40 doStatusRead s)

/-- CLOCK_SET (R169). -/
def execClockSet (dateTime : DateTimeField) (s : State) : Host.Outcome State Fault Refusal :=
  .next (depotRequest 0x41 (doClockSet dateTime) s)

/-- BANK_SWITCH (R61). -/
def execBankSwitch (bank : Byte) (minute : MinuteField) (s : State) : Host.Outcome State Fault Refusal :=
  .next (depotRequest 0x44 (doBankSwitch bank minute) s)

/-- SWITCH_CANCEL (R62). -/
def execSwitchCancel (s : State) : Host.Outcome State Fault Refusal :=
  .next (depotRequest 0x45 doSwitchCancel s)

/-- STOPLIST_ADD (R122). -/
def execStoplistAdd (number : Word) (s : State) : Host.Outcome State Fault Refusal :=
  .next (depotRequest 0x46 (doStoplistAdd number) s)

/-- STOPLIST_REMOVE (R122). -/
def execStoplistRemove (number : Word) (s : State) : Host.Outcome State Fault Refusal :=
  .next (depotRequest 0x47 (doStoplistRemove number) s)

/-- STOPLIST_CLEAR (R122). -/
def execStoplistClear (s : State) : Host.Outcome State Fault Refusal :=
  .next (depotRequest 0x48 doStoplistClear s)

/-- JOURNAL_READ (R161). -/
def execJournalRead (s : State) : Host.Outcome State Fault Refusal :=
  .next (depotRequest 0x49 doJournalRead s)

/-- JOURNAL_POP (R162). -/
def execJournalPop (s : State) : Host.Outcome State Fault Refusal :=
  .next (depotRequest 0x4A doJournalPop s)

/-- AUTH_FETCH (R125). -/
def execAuthFetch (s : State) : Host.Outcome State Fault Refusal :=
  .next (depotRequest 0x4B doAuthFetch s)

/-- AUTH_ANSWER (R126). -/
def execAuthAnswer (kiosk : Byte) (serial : Half) (attempt : Byte) (decision : Byte) (s : State) : Host.Outcome State Fault Refusal :=
  .next (depotRequest 0x4C (doAuthAnswer kiosk serial attempt decision) s)

/-- EVENTS_READ (R186). -/
def execEventsRead (s : State) : Host.Outcome State Fault Refusal :=
  .next (depotRequest 0x4D doEventsRead s)

/-- EVENTS_CLEAR (R186). -/
def execEventsClear (kinds : Word) (s : State) : Host.Outcome State Fault Refusal :=
  .next (depotRequest 0x4E (doEventsClear kinds) s)

/-- EVENTS_MASK (R185). -/
def execEventsMask (kinds : Word) (s : State) : Host.Outcome State Fault Refusal :=
  .next (depotRequest 0x4F (doEventsMask kinds) s)

/-- KIOSK_CONTROL_IN_SERVICE (R76). -/
def execKioskControlInService (kiosk : Byte) (s : State) : Host.Outcome State Fault Refusal :=
  .next (depotRequest 0x50 (doInService kiosk) s)

/-- KIOSK_CONTROL_OUT_OF_SERVICE (R76). -/
def execKioskControlOutOfService (kiosk : Byte) (s : State) : Host.Outcome State Fault Refusal :=
  .next (depotRequest 0x50 (doOutOfService kiosk) s)

/-- KIOSK_CONTROL_BLOCK (R51). -/
def execKioskControlBlock (kiosk : Byte) (s : State) : Host.Outcome State Fault Refusal :=
  .next (depotRequest 0x50 (doBlock kiosk) s)

/-- KIOSK_CONTROL_RELEASE (R51). -/
def execKioskControlRelease (kiosk : Byte) (s : State) : Host.Outcome State Fault Refusal :=
  .next (depotRequest 0x50 (doRelease kiosk) s)

/-- KIOSK_CONTROL_MODE_LATCHED (R50). -/
def execKioskControlModeLatched (kiosk : Byte) (s : State) : Host.Outcome State Fault Refusal :=
  .next (depotRequest 0x50 (doModeLatched kiosk) s)

/-- KIOSK_CONTROL_MODE_FOLLOWING (R50). -/
def execKioskControlModeFollowing (kiosk : Byte) (s : State) : Host.Outcome State Fault Refusal :=
  .next (depotRequest 0x50 (doModeFollowing kiosk) s)

/-- KIOSK_READ (R183). -/
def execKioskRead (kiosk : Byte) (s : State) : Host.Outcome State Fault Refusal :=
  .next (depotRequest 0x51 (doKioskRead kiosk) s)

/-- FLOAT_SET (R134). -/
def execFloatSet (value : Triple) (s : State) : Host.Outcome State Fault Refusal :=
  .next (depotRequest 0x52 (doFloatSet value) s)

/-- MODE_SET_LOADING (R187). -/
def execModeSetLoading (s : State) : Host.Outcome State Fault Refusal :=
  .next (depotRequest 0x53 doModeLoading s)

/-- MODE_SET_SELLING (R187). -/
def execModeSetSelling (s : State) : Host.Outcome State Fault Refusal :=
  .next (depotRequest 0x53 doModeSelling s)

/-- MODE_SET_SUSPENDED (R187). -/
def execModeSetSuspended (s : State) : Host.Outcome State Fault Refusal :=
  .next (depotRequest 0x53 doModeSuspended s)

/-- RESTART (R188). -/
def execRestart (s : State) : Host.Outcome State Fault Refusal :=
  .next (depotRequest 0x54 doRestart s)

end Sys2Proof.Machine
end

