-- ==== Sys2Proof/Machine/Starts.lean ====
section
/-! DEFINITION. The meanings of the starts (R188). -/

namespace Sys2Proof.Machine

/-- COLD_START (R188). -/
def execColdStart (pins : Fin 32) (s : State) : Host.Outcome State Fault Refusal :=
  .next (State.cold pins s.pending)

/-- RESET_PIN (R188). -/
def execResetPin (start : WarmStart) (s : State) : Host.Outcome State Fault Refusal :=
  .next (warmRestart .pin start s)

/-- COMMAND_RESTART (R188). -/
def execCommandRestart (start : WarmStart) (s : State) : Host.Outcome State Fault Refusal :=
  .next (if s.depot.restartOwed then warmRestart .command start s else s)

end Sys2Proof.Machine
end

