-- ==== Sys2Proof/Machine/TableReads.lean ====
section
/-! DEFINITION. The meanings of the TABLE-READ requests (R181). -/

namespace Sys2Proof.Machine

/-- TABLE_READ_LOOP (R181). -/
def execTableReadLoop (index : Byte) (s : State) : Host.Outcome State Fault Refusal :=
  .next (depotRequest 0x43 (doReadLoop index) s)

/-- TABLE_READ_KIOSK (R181). -/
def execTableReadKiosk (index : Byte) (s : State) : Host.Outcome State Fault Refusal :=
  .next (depotRequest 0x43 (doReadKiosk index) s)

/-- TABLE_READ_CALIB (R20). -/
def execTableReadCalib (index : Byte) (s : State) : Host.Outcome State Fault Refusal :=
  .next (depotRequest 0x43 (doReadCalib index) s)

/-- TABLE_READ_COIN (R21). -/
def execTableReadCoin (index : Byte) (s : State) : Host.Outcome State Fault Refusal :=
  .next (depotRequest 0x43 (doReadCoin index) s)

/-- TABLE_READ_TUBE (R42). -/
def execTableReadTube (index : Byte) (s : State) : Host.Outcome State Fault Refusal :=
  .next (depotRequest 0x43 (doReadTube index) s)

/-- TABLE_READ_SETTINGS (R181). -/
def execTableReadSettings (s : State) : Host.Outcome State Fault Refusal :=
  .next (depotRequest 0x43 doReadSettings s)

/-- TABLE_READ_TEMPLATE (R140). -/
def execTableReadTemplate (index : Byte) (place : Byte) (s : State) : Host.Outcome State Fault Refusal :=
  .next (depotRequest 0x43 (doReadTemplate index place) s)

/-- TABLE_READ_BANKED (R60). -/
def execTableReadBanked (table : BankedTable) (bank : Byte) (index : Byte) (s : State) : Host.Outcome State Fault Refusal :=
  .next (depotRequest 0x43 (doReadBanked table bank index) s)

end Sys2Proof.Machine
end

