-- ==== Sys2Proof/Machine/TableWrites.lean ====
section
/-! DEFINITION. The meanings of the TABLE-WRITE requests (R181). -/

namespace Sys2Proof.Machine

/-- TABLE_WRITE_LOOP (R181). -/
def execTableWriteLoop (index : Byte) (rate : Byte) (edge : Byte) (s : State) : Host.Outcome State Fault Refusal :=
  .next (depotRequest 0x42 (doWriteLoop index rate edge) s)

/-- TABLE_WRITE_KIOSK (R6). -/
def execTableWriteKiosk (index : Byte) (configured : Byte) (s : State) : Host.Outcome State Fault Refusal :=
  .next (depotRequest 0x42 (doWriteKiosk index configured) s)

/-- TABLE_WRITE_CALIB (R20). -/
def execTableWriteCalib (index : Byte) (unit : CalibUnit) (s : State) : Host.Outcome State Fault Refusal :=
  .next (depotRequest 0x42 (doWriteCalib index unit) s)

/-- TABLE_WRITE_COIN (R21). -/
def execTableWriteCoin (index : Byte) (unit : CoinUnit) (s : State) : Host.Outcome State Fault Refusal :=
  .next (depotRequest 0x42 (doWriteCoin index unit) s)

/-- TABLE_WRITE_TUBE (R42). -/
def execTableWriteTube (index : Byte) (tube : Byte) (unit : TubeUnit) (s : State) : Host.Outcome State Fault Refusal :=
  .next (depotRequest 0x42 (doWriteTube index tube unit) s)

/-- TABLE_WRITE_SETTINGS (R181). -/
def execTableWriteSettings (index : Byte) (value : Half) (s : State) : Host.Outcome State Fault Refusal :=
  .next (depotRequest 0x42 (doWriteSettings index value) s)

/-- TABLE_WRITE_TEMPLATE (R140). -/
def execTableWriteTemplate (index : Byte) (place : Byte) (unit : TemplateUnit) (s : State) : Host.Outcome State Fault Refusal :=
  .next (depotRequest 0x42 (doWriteTemplate index place unit) s)

/-- TABLE_WRITE_HEADER (R56). -/
def execTableWriteHeader (bank : Byte) (unit : HeaderUnit) (s : State) : Host.Outcome State Fault Refusal :=
  .next (depotRequest 0x42 (doWriteHeader bank unit) s)

/-- TABLE_WRITE_PRODUCT (R57). -/
def execTableWriteProduct (bank : Byte) (index : Byte) (unit : ProductUnit) (s : State) : Host.Outcome State Fault Refusal :=
  .next (depotRequest 0x42 (doWriteProduct bank index unit) s)

/-- TABLE_WRITE_FARE (R58). -/
def execTableWriteFare (bank : Byte) (index : Byte) (cells : List Half) (s : State) : Host.Outcome State Fault Refusal :=
  .next (depotRequest 0x42 (doWriteFare bank index cells) s)

/-- TABLE_WRITE_BAND (R58). -/
def execTableWriteBand (bank : Byte) (index : Byte) (factors : List Half) (s : State) : Host.Outcome State Fault Refusal :=
  .next (depotRequest 0x42 (doWriteBand bank index factors) s)

/-- TABLE_WRITE_DAYPLAN (R59). -/
def execTableWriteDayplan (bank : Byte) (index : Byte) (unit : DayplanUnit) (s : State) : Host.Outcome State Fault Refusal :=
  .next (depotRequest 0x42 (doWriteDayplan bank index unit) s)

/-- TABLE_WRITE_CLASS (R58). -/
def execTableWriteClass (bank : Byte) (index : Byte) (percents : List Byte) (s : State) : Host.Outcome State Fault Refusal :=
  .next (depotRequest 0x42 (doWriteClass bank index percents) s)

/-- TABLE_WRITE_HOLIDAY (R59). -/
def execTableWriteHoliday (bank : Byte) (index : Byte) (unit : HolidayUnit) (s : State) : Host.Outcome State Fault Refusal :=
  .next (depotRequest 0x42 (doWriteHoliday bank index unit) s)

end Sys2Proof.Machine
end

