-- ==== Sys2Proof/Machine/Timers.lean ====
section
/-! DEFINITION. The meanings of the elapsed timers and of the clock's second. The expiry of a timer that does not run
has no effect (log entry 5). -/

namespace Sys2Proof.Machine

/-- INACTIVITY_TIMER_EXPIRY (R96). -/
def execInactivityTimerExpiry (k : Kiosk) (s : State) : Host.Outcome State Fault Refusal :=
  .next (if (s.sess k).tInactivity.isSome then inactivityExpired k s else s)

/-- AUTHORISATION_TIMER_EXPIRY (R127). -/
def execAuthorisationTimerExpiry (k : Kiosk) (s : State) : Host.Outcome State Fault Refusal :=
  .next (if (s.sess k).tAuthorisation.isSome then authorisationExpired k s else s)

/-- CARD_WRITE_TIMER_EXPIRY (R89). -/
def execCardWriteTimerExpiry (k : Kiosk) (s : State) : Host.Outcome State Fault Refusal :=
  .next (if (s.sess k).tCardWrite.isSome then writeConcluded k .unknown s else s)

/-- PAYOUT_TIMER_EXPIRY (R111). -/
def execPayoutTimerExpiry (k : Kiosk) (s : State) : Host.Outcome State Fault Refusal :=
  .next (if (s.sess k).tPayout.isSome then payoutExpired k s else s)

/-- SUPERVISION_TIMER_EXPIRY (R177). -/
def execSupervisionTimerExpiry (s : State) : Host.Outcome State Fault Refusal :=
  .next (supervisionExpired s)

/-- HOLD_TIMER_EXPIRY (R177). -/
def execHoldTimerExpiry (s : State) : Host.Outcome State Fault Refusal :=
  .next (holdExpired s)

/-- HUNT_STEP_EXPIRY (R176). -/
def execHuntStepExpiry (s : State) : Host.Outcome State Fault Refusal :=
  .next (huntExpired s)

/-- CLOCK_SECOND (R167). -/
def execClockSecond (s : State) : Host.Outcome State Fault Refusal :=
  .next (clockTick s)

end Sys2Proof.Machine
end

