-- ==== Sys2Proof/Machine/Dispatch.lean ====
section
/-! DEFINITION. The dispatch of a command to its meaning, one arm per row of spec/opcode_table.json. -/

namespace Sys2Proof.Machine

def exec (i : Instr) (s : State) : Host.Outcome State Fault Refusal :=
  match i with
  | .coldStart pins => Sys2Proof.Machine.execColdStart pins s
  | .resetPin start => Sys2Proof.Machine.execResetPin start s
  | .commandRestart start => Sys2Proof.Machine.execCommandRestart start s
  | .frameAbandoned l cause => Sys2Proof.Machine.execFrameAbandoned l cause s
  | .missNoReply l => Sys2Proof.Machine.execMissNoReply l s
  | .missBadCheck l => Sys2Proof.Machine.execMissBadCheck l s
  | .missWrongAddress l => Sys2Proof.Machine.execMissWrongAddress l s
  | .nil l a => Sys2Proof.Machine.execNil l a s
  | .malformedReply l a kind payload => Sys2Proof.Machine.execMalformedReply l a kind payload s
  | .status l a door cashbox paper service => Sys2Proof.Machine.execStatus l a door cashbox paper service s
  | .keySelect l a item => Sys2Proof.Machine.execKeySelect l a item s
  | .keyConfirm l a => Sys2Proof.Machine.execKeyConfirm l a s
  | .keyCancel l a => Sys2Proof.Machine.execKeyCancel l a s
  | .keyReceiptYes l a => Sys2Proof.Machine.execKeyReceiptYes l a s
  | .keyReceiptNo l a => Sys2Proof.Machine.execKeyReceiptNo l a s
  | .coin l a r1 r2 r3 => Sys2Proof.Machine.execCoin l a r1 r2 r3 s
  | .landed l a dest => Sys2Proof.Machine.execLanded l a dest s
  | .cardImage l a image => Sys2Proof.Machine.execCardImage l a image s
  | .cardRemoval l a => Sys2Proof.Machine.execCardRemoval l a s
  | .cardResult l a result card counter => Sys2Proof.Machine.execCardResult l a result card counter s
  | .payReport l a counts => Sys2Proof.Machine.execPayReport l a counts s
  | .printRdy l a slots => Sys2Proof.Machine.execPrintRdy l a slots s
  | .fill l a counts => Sys2Proof.Machine.execFill l a counts s
  | .inactivityTimerExpiry k => Sys2Proof.Machine.execInactivityTimerExpiry k s
  | .authorisationTimerExpiry k => Sys2Proof.Machine.execAuthorisationTimerExpiry k s
  | .cardWriteTimerExpiry k => Sys2Proof.Machine.execCardWriteTimerExpiry k s
  | .payoutTimerExpiry k => Sys2Proof.Machine.execPayoutTimerExpiry k s
  | .supervisionTimerExpiry => Sys2Proof.Machine.execSupervisionTimerExpiry s
  | .holdTimerExpiry => Sys2Proof.Machine.execHoldTimerExpiry s
  | .huntStepExpiry => Sys2Proof.Machine.execHuntStepExpiry s
  | .clockSecond => Sys2Proof.Machine.execClockSecond s
  | .depotBadFrame => Sys2Proof.Machine.execDepotBadFrame s
  | .depotFrameOtherStation => Sys2Proof.Machine.execDepotFrameOtherStation s
  | .depotFrameNoReply => Sys2Proof.Machine.execDepotFrameNoReply s
  | .badKind kind payload => Sys2Proof.Machine.execBadKind kind payload s
  | .statusRead => Sys2Proof.Machine.execStatusRead s
  | .clockSet dateTime => Sys2Proof.Machine.execClockSet dateTime s
  | .tableWriteLoop index rate edge => Sys2Proof.Machine.execTableWriteLoop index rate edge s
  | .tableWriteKiosk index configured => Sys2Proof.Machine.execTableWriteKiosk index configured s
  | .tableWriteCalib index unit => Sys2Proof.Machine.execTableWriteCalib index unit s
  | .tableWriteCoin index unit => Sys2Proof.Machine.execTableWriteCoin index unit s
  | .tableWriteTube index tube unit => Sys2Proof.Machine.execTableWriteTube index tube unit s
  | .tableWriteSettings index value => Sys2Proof.Machine.execTableWriteSettings index value s
  | .tableWriteTemplate index place unit => Sys2Proof.Machine.execTableWriteTemplate index place unit s
  | .tableWriteHeader bank unit => Sys2Proof.Machine.execTableWriteHeader bank unit s
  | .tableWriteProduct bank index unit => Sys2Proof.Machine.execTableWriteProduct bank index unit s
  | .tableWriteFare bank index cells => Sys2Proof.Machine.execTableWriteFare bank index cells s
  | .tableWriteBand bank index factors => Sys2Proof.Machine.execTableWriteBand bank index factors s
  | .tableWriteDayplan bank index unit => Sys2Proof.Machine.execTableWriteDayplan bank index unit s
  | .tableWriteClass bank index percents => Sys2Proof.Machine.execTableWriteClass bank index percents s
  | .tableWriteHoliday bank index unit => Sys2Proof.Machine.execTableWriteHoliday bank index unit s
  | .tableReadLoop index => Sys2Proof.Machine.execTableReadLoop index s
  | .tableReadKiosk index => Sys2Proof.Machine.execTableReadKiosk index s
  | .tableReadCalib index => Sys2Proof.Machine.execTableReadCalib index s
  | .tableReadCoin index => Sys2Proof.Machine.execTableReadCoin index s
  | .tableReadTube index => Sys2Proof.Machine.execTableReadTube index s
  | .tableReadSettings => Sys2Proof.Machine.execTableReadSettings s
  | .tableReadTemplate index place => Sys2Proof.Machine.execTableReadTemplate index place s
  | .tableReadBanked table bank index => Sys2Proof.Machine.execTableReadBanked table bank index s
  | .bankSwitch bank minute => Sys2Proof.Machine.execBankSwitch bank minute s
  | .switchCancel => Sys2Proof.Machine.execSwitchCancel s
  | .stoplistAdd number => Sys2Proof.Machine.execStoplistAdd number s
  | .stoplistRemove number => Sys2Proof.Machine.execStoplistRemove number s
  | .stoplistClear => Sys2Proof.Machine.execStoplistClear s
  | .journalRead => Sys2Proof.Machine.execJournalRead s
  | .journalPop => Sys2Proof.Machine.execJournalPop s
  | .authFetch => Sys2Proof.Machine.execAuthFetch s
  | .authAnswer kiosk serial attempt decision => Sys2Proof.Machine.execAuthAnswer kiosk serial attempt decision s
  | .eventsRead => Sys2Proof.Machine.execEventsRead s
  | .eventsClear kinds => Sys2Proof.Machine.execEventsClear kinds s
  | .eventsMask kinds => Sys2Proof.Machine.execEventsMask kinds s
  | .kioskControlInService kiosk => Sys2Proof.Machine.execKioskControlInService kiosk s
  | .kioskControlOutOfService kiosk => Sys2Proof.Machine.execKioskControlOutOfService kiosk s
  | .kioskControlBlock kiosk => Sys2Proof.Machine.execKioskControlBlock kiosk s
  | .kioskControlRelease kiosk => Sys2Proof.Machine.execKioskControlRelease kiosk s
  | .kioskControlModeLatched kiosk => Sys2Proof.Machine.execKioskControlModeLatched kiosk s
  | .kioskControlModeFollowing kiosk => Sys2Proof.Machine.execKioskControlModeFollowing kiosk s
  | .kioskRead kiosk => Sys2Proof.Machine.execKioskRead kiosk s
  | .floatSet value => Sys2Proof.Machine.execFloatSet value s
  | .modeSetLoading => Sys2Proof.Machine.execModeSetLoading s
  | .modeSetSelling => Sys2Proof.Machine.execModeSetSelling s
  | .modeSetSuspended => Sys2Proof.Machine.execModeSetSuspended s
  | .restart => Sys2Proof.Machine.execRestart s

end Sys2Proof.Machine
end

