-- ==== Sys2Proof/Safety.lean ====
section
/-! DEFINITION. What counts as a safe run of the part, and the terms that claims about its commands use: the
bounds on its queues and lists that the manual states of every state, the rules on its banks and polls that no command
may break, what a unit of a bank gives, when a request is heard and what its answer leaves, and when a kiosk's reply ends an exchange. -/

namespace Sys2Proof

/-! ### Which commands end an exchange (R3, R4) -/

/-- The loop whose exchange a command ends as a miss (R3). -/
def Instr.missLine : Instr → Option LoopId
  | .frameAbandoned l _ => some l
  | .missNoReply l => some l
  | .missBadCheck l => some l
  | .missWrongAddress l => some l
  | _ => none

/-- The loop and the toggle A of a command that is a good reply (R4). -/
def Instr.replyLine : Instr → Option (LoopId × Bool)
  | .nil l a => some (l, a)
  | .malformedReply l a _ _ => some (l, a)
  | .status l a _ _ _ _ => some (l, a)
  | .keySelect l a _ => some (l, a)
  | .keyConfirm l a => some (l, a)
  | .keyCancel l a => some (l, a)
  | .keyReceiptYes l a => some (l, a)
  | .keyReceiptNo l a => some (l, a)
  | .coin l a _ _ _ => some (l, a)
  | .landed l a _ => some (l, a)
  | .cardImage l a _ => some (l, a)
  | .cardRemoval l a => some (l, a)
  | .cardResult l a _ _ _ => some (l, a)
  | .payReport l a _ => some (l, a)
  | .printRdy l a _ => some (l, a)
  | .fill l a _ => some (l, a)
  | _ => none

end Sys2Proof

namespace Sys2Proof.Machine

/-! ### Bounds and rules of every state -/

/-- At most one bank is ACTIVE at a time (R54). -/
def Tariff.oneActive (t : Tariff) : Prop := ¬(t.bankA.state = .active ∧ t.bankB.state = .active)

/-- The stop-list is strictly ascending (R122). -/
def stopSorted (l : List Nat) : Prop := l.Pairwise (· < ·)

/-- The stop-list is an ordered set of at most 4,096 numbers, none of them 0 (R122). -/
def Cards.stopWf (c : Cards) : Prop := stopSorted c.stopList ∧ c.stopList.length ≤ Config.stopListMax ∧ 0 ∉ c.stopList

/-- The per-kind bounds of an outbound queue (R12). -/
def KLink.queueWf (l : KLink) : Prop := ∀ kd : CmdKind, countKind l.queue kd ≤ kd.bound

/-- Every queue of the part keeps its bounds (R12). -/
def State.queuesWf (s : State) : Prop := ∀ k : Kiosk, (s.link k).queueWf

/-- Each loop polls kiosks of its own: the one its exchange is with, and those left in its round (R3, R10). -/
def State.pollsOwn (s : State) : Prop :=
  ∀ l : LoopId, (∀ x, (s.loop l).exchange = some x → loopOf x.kiosk = l) ∧ ∀ k ∈ (s.loop l).round, loopOf k = l

/-! ### Requests of the depot line (R175, R179) -/

/-- A request frame is received and answered: no reply to a RESTART is being sent (log entry 7), and the station
address is one that is answered (log entry 15). -/
def State.hears (s : State) : Prop := s.depot.restartOwed = false ∧ s.depot.station ≠ 0

/-- The state with the reply to a request of a kind sent: status code, data, and ATTENTION as it stands (R179). -/
def State.withReply (s : State) (kind : Byte) (st : Status) (data : List Byte) : State :=
  { s with depot := { s.depot with reply := some (replyFrame kind { status := st, data := data } s) } }

/-- The state with a bank's contents replaced and the bank EDITING (R55). -/
def State.editBank (s : State) (i : BankId) (b : Bank) : State :=
  { s with tariff := s.tariff.setBank i { b with state := .editing } }

/-! ### Replies of a kiosk (R3, R4) -/

/-- The exchange in progress on loop `l` is with kiosk `k`, which is PRESENT (R3). -/
def State.polls (s : State) (l : LoopId) (k : Kiosk) : Prop :=
  (s.loop l).exchange.map (·.kiosk) = some k ∧ (s.link k).state = .present

/-- The state in which the payload of a good reply with toggle `a` is delivered: the miss count is 0, and the
resync or the take of the head command is done (R4 step 1, R7, R9, R15). -/
def State.acked (s : State) (l : LoopId) (a : Bool) : State :=
  match (s.loop l).exchange with
  | none => s
  | some x => acknowledge x.kiosk x.poll a s

/-- A filter after a reported value, by the table of R17. -/
def Filter.follows {α : Type} (f : Filter α) (v : α) (g : Filter α) : Prop :=
  (v = f.value → g = { value := f.value, candidate := none, count := 0 }) ∧
  (v ≠ f.value → f.candidate = some v → f.count < 2 → g = { value := f.value, candidate := some v, count := f.count + 1 }) ∧
  (v ≠ f.value → f.candidate = some v → 2 ≤ f.count → g = { value := v, candidate := none, count := 0 }) ∧
  (v ≠ f.value → f.candidate ≠ some v → g = { value := f.value, candidate := some v, count := 1 })

/-- A head job after a filtered change of PAPER (R151, R152): suspended by OUT while lines are unsent, resumed by LOW and
OK, behind a continued line where lines were taken. A job of which none was taken resumes without RESUMED (DEDUCED, log
entry 21). -/
def headAfterPaper (v : PaperIn) (j : Job) : Job :=
  let sent := j.taken + j.inFlight
  match v with
  | .out => if j.state = .streaming ∧ sent < j.lines.length then { j with state := .suspended } else j
  | _ =>
    if j.state ≠ .suspended then j
    else if j.taken = 0 then { j with state := .streaming }
    else
      let lines := j.lines.take sent ++ [chars "-- continued --"] ++ j.lines.drop sent
      if j.lines.length < 48 then { j with lines := lines, resumed := true, state := .streaming }
      else { j with lines := lines.take 48, resumed := true, truncated := true, state := .streaming }

/-- What follows a change of the filtered inputs from those of `old` to those of `new` at kiosk `k`: `s` when the STATUS
is delivered, `t` after it (Table 1-4, R19, R48, R50, R76, R151, R152). -/
def FilteredChangesActed (k : Kiosk) (s t : State) : Prop :=
  let old := s.link k
  let new := t.link k
  let edge := (s.loop (loopOf k)).edge
  let opening := old.door.value = .closed ∧ new.door.value = .opened ∧ edge ≠ .closing
  let closing := old.door.value = .opened ∧ new.door.value = .closed ∧ edge ≠ .opening
  (new.doorReport = true ↔ old.doorReport = true ∨ opening ∨ closing) ∧
  (opening ∨ closing →
    (t.depot.events[(match loopOf k with | .a => EventKind.doorOpenA | .b => EventKind.doorOpenB).no]).on = true) ∧
  (old.cashbox.value = new.cashbox.value → (t.cash k).inlet = (s.cash k).inlet) ∧
  (old.cashbox.value ≠ .full → new.cashbox.value = .full →
    (t.cash k).inlet.cashboxFull = true ∧ (t.cash k).inlet.state = .blocked ∧
    (t.depot.events[EventKind.cashboxFull.no]).on = true ∧
    ((s.cash k).inlet.state = .opened → (t.depot.events[EventKind.inletBlocked.no]).on = true ∧
      k ∈ (t.depot.events[EventKind.inletBlocked.no]).kiosks)) ∧
  (old.cashbox.value ≠ .ok → new.cashbox.value = .ok →
    ((s.cash k).inlet.mode = .latched → (t.cash k).inlet = (s.cash k).inlet) ∧
    ((s.cash k).inlet.mode = .following → (t.cash k).inlet.cashboxFull = false ∧
      ((s.cash k).inlet.cashboxFull = true → (s.cash k).inlet.rejectRun = false → (s.cash k).inlet.server = false →
        (s.cash k).inlet.state = .blocked → (s.sess k).state = .idle →
        (t.cash k).inlet.state = .opened ∧ (t.depot.events[EventKind.inletReleased.no]).on = true))) ∧
  (old.paper.value ≠ new.paper.value →
    (new.paper.value = .out → (t.depot.events[EventKind.paperOut.no]).on = true) ∧
    (new.paper.value = .low → (t.depot.events[EventKind.paperLow.no]).on = true ∧
      k ∈ (t.depot.events[EventKind.paperLow.no]).kiosks) ∧
    ∀ (j : Job) (rest : List Job), s.jobs k = j :: rest → t.jobs k = headAfterPaper new.paper.value j :: rest) ∧
  (old.paper.value = new.paper.value → t.jobs k = s.jobs k) ∧
  (old.service.value ≠ new.service.value →
    t.svc k = { s.svc k with service := decide (new.service.value = .on) } ∧
    ((s.sess k).state = .idle → (s.svc k).server = false → (s.svc k).service ≠ (t.svc k).service →
      s.depot.mode = .selling →
      (t.disp k).message = if new.service.value = .on then .outOfService else .ready)) ∧
  (old.service.value = new.service.value → t.svc k = s.svc k)

/-! ### Coins: drops and landings (R38, R40, R43, R48) -/

/-- The tube that an entry of a taken DROP goes into: its destination, while that tube holds its type (R40). -/
def dropTube (tubes : Vector Tube 6) (p : EscrowEntry × Dest) : Option TubeNo :=
  match p.2 with
  | .tube n => if p.1.coinType.isSome = true ∧ (tubes[n]).coinType = p.1.coinType then some n else none
  | _ => none

/-- What a landing in `d` of a coin of type `t` makes of the tubes and the cashbox count of the Cash Unit's state `c` (R38,
R43, R48), where no tube is above its capacity. More than four entries beside the coin are taken as four (log entry 11). -/
def KCash.CountedIn (c : KCash) (d : Dest) (t : Option CoinType) (c' : KCash) : Prop :=
  let inCashbox := c'.cashboxCount = min 65535 (c.cashboxCount + 1) ∧ c'.tubes = c.tubes
  let nowhere := c'.cashboxCount = c.cashboxCount ∧ c'.tubes = c.tubes
  match d with
  | .ret => nowhere
  | .cashbox => inCashbox
  | .escrow => (c.escrow.length + c.heldCount < 4 → nowhere) ∧ (4 ≤ c.escrow.length + c.heldCount → inCashbox)
  | .tube n =>
    ((c.tubes[n]).coinType = none → inCashbox) ∧
    ∀ held, (c.tubes[n]).coinType = some held →
      c'.cashboxCount = c.cashboxCount ∧ (∀ m, m ≠ n → c'.tubes[m] = c.tubes[m]) ∧
      (c'.tubes[n]).coinType = some held ∧ (c'.tubes[n]).capacity = (c.tubes[n]).capacity ∧
      (t = none ∨ t = some held →
        (c'.tubes[n]).count = min (c.tubes[n]).capacity ((c.tubes[n]).count + 1) ∧ (c'.tubes[n]).state = (c.tubes[n]).state) ∧
      (t ≠ none → t ≠ some held → (c'.tubes[n]).count = (c.tubes[n]).count ∧ (c'.tubes[n]).state = .suspect)

/-- What a landing in `d` of a coin of type `t` with credited value `v` makes of the Cash Unit's state `c`: the coin is
counted, and joins the escrow list of one that it finds room in (R38, R43, R48). -/
def KCash.Lands (c : KCash) (d : Dest) (t : Option CoinType) (v : Nat) (c' : KCash) : Prop :=
  c.CountedIn d t c' ∧ (d = .ret → c' = c) ∧
  c'.escrow = (if d = .escrow ∧ c.escrow.length + c.heldCount < 4 then c.escrow ++ [{ coinType := t, value := v }] else c.escrow)

/-! ### Banked writes and validation (R56–R59, R63) -/

/-- An amount of 100 to 50,000 that is a multiple of 100 (Table 4-2). -/
def topupAmount (n : Nat) : Prop := 100 ≤ n ∧ n ≤ 50000 ∧ n % 100 = 0

/-- The header that a HEADER unit within the ranges of Table 4-2 gives (R56). -/
def Header.IsGivenBy (h : Header) (u : HeaderUnit) : Prop :=
  u.set = 1 ∧ h = { step := u.step.toNat, maxSale := u.maxSale.toNat, fee := u.fee.toNat, topupMin := u.topupMin.toNat,
                    topupMax := u.topupMax.toNat, cardMax := u.cardMax.toNat, offlineLimit := u.offlineLimit.toNat,
                    denominations := u.denominations.map (·.toNat) } ∧
  h.step ∈ [1, 2, 5, 10, 20, 50] ∧ (1 ≤ h.maxSale ∧ h.maxSale ≤ 99999) ∧ h.fee ≤ 500 ∧ topupAmount h.topupMin ∧
  topupAmount h.topupMax ∧ (1 ≤ h.cardMax ∧ h.cardMax ≤ 99999) ∧ h.offlineLimit ≤ 50000 ∧
  ∀ d ∈ h.denominations, d = 0 ∨ topupAmount d

/-- The entry that a PRODUCT unit within the ranges of Table 4-3 gives (R57, R190). -/
def Product.IsGivenBy (p : Product) (u : ProductUnit) : Prop :=
  u.valid = 1 ∧ (p.code = u.code.toNat ∧ 1 ≤ p.code ∧ p.code ≤ 9999) ∧
  (p.name ≠ [] ∧ (∀ c ∈ p.name, 0x20 ≤ c.toNat ∧ c.toNat ≤ 0x7E) ∧ u.name = p.name ++ List.replicate (20 - p.name.length) 0) ∧
  p.days = u.days.toNat ∧
  ((u.kind = 0 ∧ p.kind = .single ∧ p.days = 0) ∨ (u.kind = 1 ∧ p.kind = .pass ∧ 1 ≤ p.days ∧ p.days ≤ 31)) ∧
  ((u.carriers = 0 ∧ p.carriers = .paper) ∨ (u.carriers = 1 ∧ p.carriers = .card) ∨ (u.carriers = 2 ∧ p.carriers = .both)) ∧
  u.fareRow.toNat = p.fareRow.val ∧ u.bandGroup.toNat = p.bandGroup.val ∧ u.discountGroup.toNat = p.discountGroup.val ∧
  u.template.toNat = p.template.val ∧
  (u.classes.toNat < 16 ∧ p.classes = { adult := u.classes.getLsbD 0, child := u.classes.getLsbD 1,
                                        senior := u.classes.getLsbD 2, concession := u.classes.getLsbD 3 }) ∧
  p.maxQuantity = u.maxQuantity.toNat ∧ 1 ≤ p.maxQuantity ∧ p.maxQuantity ≤ 9

/-- The plan that a DAYPLAN unit of 1 to 6 bands in range, their starts strictly ascending, gives (R59). -/
def PlanIsGivenBy (bands : List Band) (u : DayplanUnit) : Prop :=
  (1 ≤ u.count.toNat ∧ u.count.toNat ≤ 6) ∧
  bands.map (fun b => (b.start, b.cls.val)) = (u.slots.take u.count.toNat).map (fun x => (x.start.toNat, x.cls.toNat)) ∧
  (∀ b ∈ bands, b.start ≤ 1439) ∧ bands.Pairwise (fun a b => a.start < b.start)

/-- Checks 2 to 4 of Table 4-5. -/
def Header.Sound (h : Header) : Prop := h.step ≤ h.maxSale ∧ h.fee % h.step = 0 ∧ h.topupMin ≤ h.topupMax

/-- Checks 5 and 6 of Table 4-5 for the product entry `n`. -/
def Bank.ProductSound (b : Bank) (s : State) (n : Fin 64) : Prop :=
  ∀ p, b.products[n] = some p → p.kind = .pass →
    (p.carriers ≠ .paper → p.maxQuantity = 1) ∧
    (p.carriers ≠ .card → ∃ i : Fin 24, ((s.templates[p.template])[i]).isSome = true)

/-- Checks 7 and 8 of Table 4-5 for the day type `d`. -/
def Bank.PlanSound (b : Bank) (d : Fin 4) : Prop := ∃ first rest, b.plans[d] = some (first :: rest) ∧ first.start = 0

/-- Check 9 of Table 4-5 for the holiday entry `n`: above the last non-empty entry before it. -/
def Bank.HolidaySound (b : Bank) (n : Fin 32) : Prop :=
  ∀ (day before : Nat) (m : Fin 32), b.holidays[n] = some day → m < n → b.holidays[m] = some before →
    (∀ j : Fin 32, m < j → j < n → b.holidays[j] = none) → before < day

/-! ### Selecting (R79, R80) -/

/-- `w` holds what the reprice of R80 makes of the selection and the card that the session of kiosk `k` has in it, priced
from the ACTIVE bank of `u`: the shown price, the message and the offered amounts, with SHOW offered. -/
def RepricedFrom (k : Kiosk) (u w : State) : Prop :=
  let x := w.sess k
  let cls := match x.card with | some c => c.cls | none => x.selection.cls
  let shows := fun (price : Option Nat) (m : Message) =>
    x.shown = price ∧ (w.disp k).due = price ∧ (w.disp k).message = m
  let answered := fun (answer : PriceAnswer) (m : Message) =>
    (∀ p, answer = .price p → shows (some p.due) m) ∧ ∀ refusal, answer = .refused refusal → shows none refusal
  (x.selection.topup = none → x.selection.product = none → shows none .select) ∧
  (∀ code, x.selection.topup = none → x.selection.product = some code →
    answered (salePrice u code x.selection.zones cls x.selection.quantity x.selection.carrier)
      (if x.kind = .cardSale ∧ x.card = none then .insertCard else .price)) ∧
  (∀ amount c, x.selection.topup = some amount → x.card = some c → answered (topupPrice u amount c.balance) .price) ∧
  (∀ amount, x.selection.topup = some amount → x.card = none → shows none .insertCard) ∧
  (w.disp k).credit = x.credit ∧
  (w.disp k).offered =
    (match u.tariff.active.bind (fun i => (u.tariff.bank i).header) with
      | some h => h.denominations.filter (fun d => decide (d ≠ 0)) | none => []) ∧
  ((w.link k).heldShow = some (w.disp k) ∨ ∃ q ∈ (w.link k).queue, q.cmd = .show (w.disp k))

/-! ### Change (R102–R105) -/

/-- What counts taken from tubes are worth. -/
def worth : List PayEntry → List Nat → Nat
  | p :: ps, n :: ns => n * p.value + worth ps ns
  | _, _ => 0

/-- Position `i` takes the lesser of its tube's count and what is left of `x` divided by its value (R103). -/
def fillsGreedily (x : Nat) (parts : List PayEntry) (counts : List Nat) (i : Nat) : Prop :=
  ∀ p n, parts[i]? = some p → counts[i]? = some n →
    n = min p.count ((x - worth (parts.take i) (counts.take i)) / p.value)

/-- The greedy counts of an amount over the tubes in payout order (R103). -/
def IsGreedy (x : Nat) (parts : List PayEntry) (counts : List Nat) : Prop :=
  counts.length = parts.length ∧ ∀ i, fillsGreedily x parts counts i

/-- The retry at position `j` against greedy counts `g` (R104): those before `j`, one fewer at `j`, and a greedy fill
after it. -/
def IsRetry (x : Nat) (parts : List PayEntry) (g : List Nat) (j : Nat) (counts : List Nat) : Prop :=
  counts.length = parts.length ∧ counts.take j = g.take j ∧
    (∃ n, g[j]? = some (n + 1) ∧ counts[j]? = some n) ∧ ∀ i, j < i → fillsGreedily x parts counts i

/-- The payout list of counts: an entry for each tube whose count is above 0 (R105). -/
def payoutList : List PayEntry → List Nat → List PayEntry
  | p :: ps, n :: ns => if 0 < n then { p with count := n } :: payoutList ps ns else payoutList ps ns
  | _, _ => []

/-! ### Closes (R93, R112, R114, R159, R165) -/

/-- `t` is `s` after the session of kiosk `k` has closed, `paid` being what it was paid back in all (R93): the outcome,
the figures, the record at the tail in place of the reservation, the daily counters, and the IDLE display. -/
def ClosedFrom (k : Kiosk) (paid : Nat) (s t : State) : Prop :=
  let x := s.sess k
  let due := (x.fixed.map (·.due)).getD 0
  let outcome : SessOutcome :=
    if x.purpose = .change then .completed else if x.write = .failed then .failed else .cancelled
  let retained := if x.purpose = .change then due else 0
  let kind : RecordKind :=
    if x.purpose ≠ .change then .cancel else if x.kind = .topup then .topup else .sale
  let voucher := x.credit - retained - paid
  ((t.sess k).state = .idle ∧ (t.sess k).outcome = some outcome ∧ (t.sess k).credit = x.credit ∧
    (t.sess k).retained = retained ∧ (t.sess k).paidBack = paid ∧ (t.sess k).voucher = voucher ∧
    (t.sess k).stranded = 0 ∧ (t.sess k).tInactivity = none ∧ (t.sess k).tAuthorisation = none ∧
    (t.sess k).tCardWrite = none ∧ (t.sess k).tPayout = none) ∧
  (∃ r : Record, t.journal.records = s.journal.records ++ [r] ∧ r.kind = kind ∧ r.outcome = outcome ∧
    r.sessKind = x.kind ∧ r.kiosk = k ∧ r.serial = x.serial ∧ r.closeTime = s.clock.dateTime ∧
    r.serviceDay = s.clock.heldDay ∧ r.due = due ∧ r.credit = x.credit ∧ r.retained = retained ∧ r.paidBack = paid ∧
    r.voucher = voucher ∧ r.stranded = 0) ∧
  t.journal.reservations = s.journal.reservations - 1 ∧
  t.daily k =
    { sales := if x.purpose = .change then min 65535 ((s.daily k).sales + 1) else (s.daily k).sales,
      retained := min 4294967295 ((s.daily k).retained + retained) } ∧
  ((t.disp k).message = (match outcome with | .completed => .thankYou | .failed => .failed | _ => .cancelled) ∧
    (t.disp k).due = none ∧ (t.disp k).credit = 0 ∧ (t.disp k).remaining = 0) ∧
  (0 < voucher → (t.depot.events[EventKind.voucherIssued.no]).on = true ∧
    k ∈ (t.depot.events[EventKind.voucherIssued.no]).kiosks) ∧
  (x.purpose = .change → (s.link k).state = .present → (s.cash k).escrow ≠ [] → (s.cash k).held = [] →
    countKind (s.link k).queue .escrow = 0 →
    (t.cash k).escrow = [] ∧
    (t.cash k).escrowCmd.map (fun c => (c.action, c.origin, c.entries)) = some (.drop, .session, (s.cash k).escrow)) ∧
  ∀ j, j ≠ k → t.sess j = s.sess j ∧ t.cash j = s.cash j ∧ t.daily j = s.daily j

/-- A date-time in seconds since 2000-01-01 00:00:00. -/
def DateTime.seconds (d : DateTime) : Nat := d.minutes * 60 + d.second

/-! ### Restarts (R5, R37, R99, R188) -/

/-- What the end of a warm restart of `seconds` makes of the clock and the tariff (R65, R173): a VALID clock has gone on; a
boundary that it passed rolls the day, and a T that it reached makes the switch. -/
def RestartClock (seconds : Nat) (s t : State) : Prop :=
  t.clock.state = s.clock.state ∧
  (s.clock.state = .invalid → t.clock = s.clock ∧ t.tariff = s.tariff) ∧
  (s.clock.state = .valid →
    t.clock.dateTime = s.clock.dateTime.advanceBy seconds ∧
    t.clock.heldDay = max s.clock.heldDay (serviceDay t.clock.dateTime s.settings.boundary) ∧
    (s.clock.heldDay < t.clock.heldDay →
      (t.depot.events[EventKind.dayRolled.no]).on = true ∧ ∀ k, t.daily k = ⟨0, 0⟩) ∧
    ∀ w, s.tariff.switch = some w →
      if w.minute.minutes ≤ t.clock.dateTime.minutes then
        t.tariff.switch = none ∧ (t.tariff.bank w.bank).state = .active ∧
          (t.depot.events[EventKind.bankSwitched.no]).on = true
      else t.tariff = s.tariff)

/-- What a warm restart makes of `s`, whatever its cause: the tables, the stop-list, the float established, the tubes' counts, the banks' contents, the records of the journal, the part mode, the
mask and the filtered inputs are kept (R17, R42, R54, R139, R140, R166, R185, R187); every queue, flight, job, request and
session is at its restart value (R5, R34, R37, R75, R99, R139, R154); the records of the stranded sessions follow the kept
ones and carry the date-time and the held day of the restart's beginning (R166, R173). -/
def Restarted (start : WarmStart) (s t : State) : Prop :=
  (t.depot.station = start.pins ∧ t.depot.mode = s.depot.mode ∧ t.depot.unmasked = s.depot.unmasked ∧
    t.depot.restartOwed = false ∧ (t.depot.events[EventKind.restarted.no]).on = true) ∧
  (t.coins = s.coins ∧ t.templates = s.templates ∧ t.settings = s.settings ∧ t.cards.stopList = s.cards.stopList ∧
    t.cards.authList = [] ∧ t.cards.floatSet = s.cards.floatSet ∧
    ∃ settled, t.journal.records = s.journal.records ++ settled ∧
      ∀ r ∈ settled, r.closeTime = s.clock.dateTime ∧ r.serviceDay = s.clock.heldDay) ∧
  RestartClock start.seconds s t ∧
  (∀ i, { t.tariff.bank i with state := (s.tariff.bank i).state } = s.tariff.bank i) ∧
  (s.tariff.switch = none → t.tariff = s.tariff) ∧
  (∀ l, (t.loop l).rate = (s.loop l).rate ∧ (t.loop l).edge = (s.loop l).edge) ∧
  ∀ k,
    ((t.link k).state = (if (s.link k).state = .unused then .unused else .absent) ∧ (t.link k).missCount = 0 ∧
      (t.link k).pollNumber = 1 ∧ (t.link k).resyncPending = false ∧ (t.link k).lastToggle = true ∧
      (t.link k).firstStatusPending = false ∧ (t.link k).queue = [] ∧ (t.link k).heldShow = none ∧
      (t.link k).heldInlet = none ∧ (t.link k).doorReport = false ∧ (t.link k).door.value = (s.link k).door.value ∧
      (t.link k).cashbox.value = (s.link k).cashbox.value ∧ (t.link k).paper.value = (s.link k).paper.value ∧
      (t.link k).service.value = (s.link k).service.value) ∧
    ((t.coin k).flight = none ∧ (t.coin k).returnsOwed = 0 ∧ (t.coin k).calib1 = (s.coin k).calib1 ∧
      (t.coin k).calib2 = (s.coin k).calib2 ∧ (t.coin k).calib3 = (s.coin k).calib3) ∧
    ((t.cash k).escrow = (s.cash k).carried ++ (s.cash k).escrow ∧ (t.cash k).escrowCmd = none ∧ (t.cash k).held = [] ∧
      (t.cash k).strandedMark = decide ((t.cash k).escrow ≠ []) ∧ (t.cash k).order = none ∧
      (t.cash k).cashboxCount = (s.cash k).cashboxCount ∧ (t.cash k).inlet.mode = (s.cash k).inlet.mode ∧
      ∀ n : TubeNo, ((t.cash k).tubes[n]).coinType = ((s.cash k).tubes[n]).coinType ∧
        ((t.cash k).tubes[n]).capacity = ((s.cash k).tubes[n]).capacity ∧
        ((t.cash k).tubes[n]).count = ((s.cash k).tubes[n]).count ∧
        ((t.cash k).tubes[n]).lowMark = ((s.cash k).tubes[n]).lowMark) ∧
    (t.sess k = Session.start (s.sess k).serial ∧ t.svc k = s.svc k ∧ t.jobs k = [] ∧ (t.kcard k).issued = none ∧
      (t.kcard k).lastRequest = none)

end Sys2Proof.Machine
end

