-- ==== Sys2Proof/Certificates/Slice0/Obligations.lean ====
section
/-! DEFINITION. The statements for the provers, from the numbered rules of spec/. A statement about a request of the
depot line is written over the state `frameForStation s` that its frame leaves (statement `DepotLinkChangesState`), and
one about a kiosk's reply over the state `s.acked l a` in which its payload is delivered, up to the next poll of the
schedule, `nextPoll`. -/

open Sys2Proof Sys2Proof.Machine

/-! ### The machine and its queue -/

/-- A step runs the command at the front of the queue on the state with the queue's rest. -/
def Obligations.StepRunsFrontCommand : Prop :=
  ∀ (c : Instr) (rest : List Instr) (s : State),
    step { s with pending := c :: rest } = exec c { s with pending := rest }

/-- Every command answers a next state, and none touches the queue of waiting commands. -/
def Obligations.EveryCommandLeavesQueueAlone : Prop :=
  ∀ (c : Instr) (s : State), ∃ t, exec c s = .next t ∧ t.pending = s.pending

/-! ### Frames and payloads (chapter 12) -/

/-- The check of R189 over the bytes 0x31 to 0x39, the layout of every frame with its check after it, high byte first, and
three frames written out: the requests STATUS-READ and KIOSK-CONTROL BLOCK of kiosk 6 to station 5, and a poll of kiosk 3
with T and STATUS-WANTED.

Payloads written out by Tables 12-4, 12-6 and 12-7 read as the commands they stand for. -/
def Obligations.FramesAndPayloadsWrittenOut : Prop :=
  (crc16 [0x31, 0x32, 0x33, 0x34, 0x35, 0x36, 0x37, 0x38, 0x39] = 0x29B1#16 ∧
   ∀ f : Frame, f.bytes =
     0xA5#8 :: f.addr :: f.kind :: f.control :: BitVec.ofNat 8 f.payload.length ::
       (f.payload ++
         [BitVec.ofNat 8 ((crc16 (f.addr :: f.kind :: f.control :: BitVec.ofNat 8 f.payload.length :: f.payload)).toNat / 256),
          BitVec.ofNat 8 (crc16 (f.addr :: f.kind :: f.control :: BitVec.ofNat 8 f.payload.length :: f.payload)).toNat])) ∧
  (Frame.bytes { addr := 5, kind := 0x40, control := 0, payload := [] } = [0xA5, 0x05, 0x40, 0x00, 0x00, 0x25, 0x28] ∧
   Frame.bytes { addr := 5, kind := 0x50, control := 0, payload := [6, 2] } =
     [0xA5, 0x05, 0x50, 0x00, 0x02, 0x06, 0x02, 0xBC, 0xA7] ∧
   (pollOf 3 { KLink.cold with pollNumber := 1, lastToggle := true }).2.2 = [0xA5, 0x03, 0x10, 0x03, 0x00, 0x09, 0x2C]) ∧
  (decodeReply .b true 0x21 [1, 0, 2, 1] = .status .b true .closed .ok .out .off ∧
   decodeReply .a false 0x22 [0, 0, 0x00, 0xD2] = .keySelect .a false (.product 210) ∧
   decodeReply .a false 0x23 [0x02, 0x64, 0x01, 0xAF, 0x01, 0x1F] = .coin .a false 612 431 287 ∧
   decodeReply .a false 0x24 [1, 3] = .landed .a false (.tube 3) ∧
   decodeReply .a false 0x24 [1, 6] = .malformedReply .a false 0x24 [1, 6] ∧
   decodeRequest 0x40 [] = .statusRead ∧
   decodeRequest 0x42 [4, 0, 9, 2, 1, 100, 60, 5] = .tableWriteTube 9 2 ⟨1, 100, 60, 5⟩ ∧
   decodeRequest 0x46 [0, 0, 0x13, 0x89] = .stoplistAdd 5001 ∧
   decodeRequest 0x50 [6, 2] = .kioskControlBlock 6 ∧
   decodeRequest 0x50 [6, 6] = .badKind 0x50 [6, 6] ∧
   decodeRequest 0x53 [1] = .modeSetSelling)

/-- Every request that its own frame spells is read back from the payload written for it, with every field at
every value. -/
def Obligations.RequestsRoundTrip : Prop :=
  ∀ (i : Instr) (kind : Byte) (p : List Byte),
    i.canonical = true → encodeRequest i = some (kind, p) → decodeRequest kind p = i

/-- Every reply that its own frame spells is read back from the payload written for it, with every field at every
value; the loop and the toggle A come from the exchange and the control byte. -/
def Obligations.RepliesRoundTrip : Prop :=
  ∀ (i : Instr) (l : LoopId) (a : Bool) (kind : Byte) (p : List Byte),
    i.canonical = true → i.replyLine = some (l, a) → encodeReply i = some (kind, p) → decodeReply l a kind p = i

/-- A character is a start bit, eight data bits least significant first, even parity and a stop bit: 0xA5 written out;
every byte's eleven levels read back as that byte, with a data or parity bit inverted as a character of wrong parity, and
with the stop bit inverted as one without it.

A frame of at most 240 payload bytes, sent in such characters without a gap, is received as a good frame with its own
fields; with its last check byte changed it is a bad-check frame. -/
def Obligations.FramesReceivedAsSent : Prop :=
  (charBits 0xA5 = [false, true, false, true, false, false, true, false, true, false, true] ∧
   ∀ b : Byte, (charBits b).length = 11 ∧ charOf (charBits b) = some (.char b true true) ∧
     (∀ i, 1 ≤ i → i ≤ 9 → ∃ c, charOf ((charBits b).set i (!(charBits b).getD i false)) = some (.char c false true)) ∧
     charOf ((charBits b).set 10 false) = some (.char b true false)) ∧
  ∀ f : Frame, f.payload.length ≤ 240 →
    receive .hunting ((f.bytes.map charBits).filterMap charOf) = some (.good f) ∧
    ∀ x : Byte, x ≠ 0 →
      receive .hunting (((f.bytes.dropLast ++ [f.bytes.getLastD 0 ^^^ x]).map charBits).filterMap charOf) = some .badCheck

/-! ### Starts (R188) -/

/-- What a cold start leaves, block by block: the values that the manual gives, the cold contents of both banks (Table
4-1) and the cold display record among them. The last reply, the recorded cancel cause and the kiosks that join a rotation
are fields of the model's own. -/
def Obligations.ColdStartValues : Prop :=
  ∀ (pins : Fin 32) (s : State), ∃ t, exec (.coldStart pins) s = .next t ∧
    (t.depot.station = pins ∧ t.depot.cause = .cold ∧ t.depot.mode = .loading ∧ t.depot.link = .search .r9600 ∧
      t.depot.linkTimerMs = 250 ∧ t.depot.reply = none ∧ t.depot.restartOwed = false ∧
      ∀ e : EventKind, (t.depot.events[e.no]).on = decide (e = .restarted) ∧ (t.depot.events[e.no]).kiosks = [] ∧
        t.depot.unmasked[e.no] = decide (e = .restarted)) ∧
    (t.clock.state = .invalid ∧ t.clock.dateTime = ⟨2000, 1, 1, 0, 0, 0⟩ ∧ t.clock.heldDay = 0) ∧
    (t.settings.boundary = 180 ∧ t.settings.inactivity = 45 ∧ t.settings.authorisation = 5 ∧ t.settings.supervision = 5 ∧
      t.settings.saleTemplate = 0 ∧ t.settings.topupTemplate = 1 ∧ t.settings.refundTemplate = 2) ∧
    (∀ l, (t.loop l).rate = .r38400 ∧ (t.loop l).edge = .opening ∧ (t.loop l).exchange = none ∧
      (t.loop l).round = [] ∧ (t.loop l).rediscovered = false ∧ (t.loop l).rotation = loopLast l ∧ (t.loop l).joining = []) ∧
    (∀ k, (t.link k).state = .unused ∧ (t.link k).missCount = 0 ∧ (t.link k).pollNumber = 1 ∧ (t.link k).resyncPending = false ∧
      (t.link k).lastToggle = true ∧ (t.link k).firstStatusPending = false ∧ (t.link k).queue = [] ∧
      (t.link k).heldShow = none ∧ (t.link k).heldInlet = none ∧ (t.link k).door = ⟨.closed, none, 0⟩ ∧
      (t.link k).cashbox = ⟨.ok, none, 0⟩ ∧ (t.link k).paper = ⟨.ok, none, 0⟩ ∧ (t.link k).service = ⟨.off, none, 0⟩ ∧
      (t.link k).doorReport = false) ∧
    (∀ k, (t.coin k).calib1 = ⟨0, 2⟩ ∧ (t.coin k).calib2 = ⟨0, 2⟩ ∧ (t.coin k).calib3 = ⟨0, 2⟩ ∧ (t.coin k).flight = none ∧
      (t.coin k).returnsOwed = 0 ∧ (t.cash k).escrow = [] ∧ (t.cash k).escrowCmd = none ∧ (t.cash k).held = [] ∧
      (t.cash k).strandedMark = false ∧ (t.cash k).cashboxCount = 0 ∧ (t.cash k).order = none ∧
      (t.cash k).inlet = ⟨.opened, false, false, false, .latched, false, none⟩ ∧
      ∀ n : TubeNo, (t.cash k).tubes[n] = ⟨none, 1, 0, 0, .payable, false⟩) ∧
    (∀ k, t.sess k =
        { state := .idle, serial := 0, selection := ⟨none, none, 1, .adult, 1, .paper⟩, receiptWanted := false,
          kind := .paperSale, card := none, shown := none, fixed := none, credit := 0, accepted := Vector.replicate 16 0,
          escrowValue := 0, rejectRun := 0, auth := .none, offlineHeld := 0, write := .none, written := none,
          purpose := .none, payoutOut := false, payTaken := false, returnOut := false, changeDue := 0, payout := [],
          paidBack := 0, retained := 0, voucher := 0, stranded := 0, outcome := none, cancelCause := none,
          tInactivity := none, tAuthorisation := none, tCardWrite := none, tPayout := none } ∧
      t.disp k = { due := none, credit := 0, remaining := 0, message := .closed, indicator := false, offered := [] } ∧
      (t.kcard k).grant = none ∧ (t.kcard k).issued = none ∧ (t.kcard k).lastRequest = none ∧ t.jobs k = [] ∧
      t.daily k = ⟨0, 0⟩ ∧ t.svc k = ⟨false, false⟩) ∧
    (∀ i : CoinType, t.coins[i] = none) ∧ (∀ (i : Fin 16) (p : Fin 24), (t.templates[i])[p] = none) ∧
    (t.tariff.switch = none ∧ ∀ i : BankId,
      (t.tariff.bank i).state = .empty ∧ (t.tariff.bank i).header = none ∧
      (∀ n : Fin 64, (t.tariff.bank i).products[n] = none) ∧
      (∀ n : Fin 16, (t.tariff.bank i).fares[n] = List.replicate 8 none) ∧
      (∀ n : Fin 4, (t.tariff.bank i).bands[n] = [1000, 1000, 1000, 1000] ∧ (t.tariff.bank i).plans[n] = none ∧
        (t.tariff.bank i).classes[n] = [0, 0, 0, 0]) ∧
      ∀ n : Fin 32, (t.tariff.bank i).holidays[n] = none) ∧
    (t.cards.stopList = [] ∧ t.cards.authList = [] ∧ t.cards.offline = [] ∧ t.cards.floatSet = 0 ∧
      t.cards.floatRemaining = 0 ∧ t.cards.delivered = 0 ∧ t.cards.floatLow = false) ∧
    (t.journal.records = [] ∧ t.journal.reservations = 0 ∧ t.journal.highFlag = false)

/-- What a warm restart by the RESET pin, and by a RESTART request whose reply has been sent, leaves: every kiosk's link
part, session, queue, flight, escrow and jobs at their restart values; the tables, the banks' contents, the stop-list, the
float established, the tubes, the journal's records and the filtered inputs kept. The clock goes on through the restart: at
its end a boundary passed in it rolls the day and a T reached in it makes the switch, while the stranded records carry the
date-time and held day of its beginning. The pin begins the search for a rate; the request keeps link state and rate. That
the seconds of the restart come as an operand is log entry 34. That an escrow list put together so may hold more than four is log entry 11; that
a restart follows the reply is log entry 7.

RESTART is answered OK and the restart follows its reply: until then no depot frame of any kind is received (log entry
7). -/
def Obligations.RestartsAndTheirRequest : Prop :=
  (∀ (start : WarmStart) (s : State),
     (∃ t, exec (.resetPin start) s = .next t ∧ t.depot.cause = .pin ∧ t.depot.link = .search .r9600 ∧
       Restarted start s t) ∧
     (s.depot.restartOwed = true →
       ∃ t, exec (.commandRestart start) s = .next t ∧ t.depot.cause = .command ∧ t.depot.link = s.depot.link ∧
         Restarted start s t)) ∧
  (∀ s : State, s.hears →
     let v := frameForStation s
     exec .restart s = .next (({ v with depot := { v.depot with restartOwed := true } } : State).withReply 0x54 .ok [])) ∧
  ∀ (s : State) (c : Instr), s.depot.restartOwed = true →
    c = .depotBadFrame ∨ c = .depotFrameOtherStation ∨ c = .depotFrameNoReply ∨ (encodeRequest c).isSome = true →
    exec c s = .next s

/-! ### Exchanges, link states and queues (chapter 1) -/

/-- A miss of any of the four kinds: below the third in a row it raises the miss count of a PRESENT kiosk by 1, and
one on a kiosk that is not PRESENT is not counted; the next poll is then sent.

The third miss in a row, of any of the four kinds, makes the kiosk ABSENT: its queue and held commands dropped,
its coin in flight and returns owed discarded, its session ended, KIOSK_ABSENT pending for it; the four filtered values
and the door report flag are kept, their candidates and counts cleared, and no other kiosk's money, session, display or jobs change. -/
def Obligations.MissesLeadToAbsence : Prop :=
  (∀ (c : Instr) (l : LoopId) (s : State) (x : Exchange), c.missLine = some l → (s.loop l).exchange = some x →
     ((s.link x.kiosk).state = .present → (s.link x.kiosk).missCount < 2 →
       exec c s = .next (nextPoll l (s.updLink x.kiosk (fun y => { y with missCount := y.missCount + 1 })))) ∧
     ((s.link x.kiosk).state ≠ .present → exec c s = .next (nextPoll l s))) ∧
  (∀ (c : Instr) (l : LoopId) (s : State) (k : Kiosk), c.missLine = some l → s.polls l k → 2 ≤ (s.link k).missCount →
     ∃ t, exec c s = .next t ∧
       (t.link k).state = .absent ∧ (t.link k).missCount = 0 ∧ (t.link k).queue = [] ∧ (t.link k).heldShow = none ∧
       (t.link k).heldInlet = none ∧
       (t.link k).door = { value := (s.link k).door.value, candidate := none, count := 0 } ∧
       (t.link k).cashbox = { value := (s.link k).cashbox.value, candidate := none, count := 0 } ∧
       (t.link k).paper = { value := (s.link k).paper.value, candidate := none, count := 0 } ∧
       (t.link k).service = { value := (s.link k).service.value, candidate := none, count := 0 } ∧
       (t.link k).doorReport = (s.link k).doorReport ∧ (t.coin k).flight = none ∧ (t.coin k).returnsOwed = 0 ∧
       (t.sess k).state = .idle ∧ (t.depot.events[EventKind.kioskAbsent.no]).on = true ∧
       k ∈ (t.depot.events[EventKind.kioskAbsent.no]).kiosks ∧
       ∀ j, j ≠ k → t.coin j = s.coin j ∧ t.cash j = s.cash j ∧ t.sess j = s.sess j ∧ t.disp j = s.disp j ∧ t.jobs j = s.jobs j)

/-- The first good reply of an ABSENT kiosk, of any kind, makes it PRESENT with resync and first status pending, poll
number 1 and miss count 0 and raises KIOSK_PRESENT; its payload reaches no block: no session, flight, tube or journal
record changes. The next poll is then sent. -/
def Obligations.GoodReplyMakesPresent : Prop :=
  ∀ (c : Instr) (l : LoopId) (a : Bool) (s : State) (x : Exchange),
    c.replyLine = some (l, a) → (s.loop l).exchange = some x → (s.link x.kiosk).state = .absent →
    ∃ u, exec c s = .next (nextPoll l u) ∧
      (u.link x.kiosk).state = .present ∧ (u.link x.kiosk).missCount = 0 ∧ (u.link x.kiosk).pollNumber = 1 ∧
      (u.link x.kiosk).resyncPending = true ∧ (u.link x.kiosk).firstStatusPending = true ∧
      (u.depot.events[EventKind.kioskPresent.no]).on = true ∧
      x.kiosk ∈ (u.depot.events[EventKind.kioskPresent.no]).kiosks ∧ u.journal = s.journal ∧ u.cards = s.cards ∧
      ∀ j, (u.sess j).state = (s.sess j).state ∧ (u.sess j).credit = (s.sess j).credit ∧
        (u.sess j).selection = (s.sess j).selection ∧ u.coin j = s.coin j ∧ (u.cash j).tubes = (s.cash j).tubes ∧
        (u.cash j).cashboxCount = (s.cash j).cashboxCount

/-- The toggle of a good reply, a NIL or one with a malformed payload, decides the take of the head that its poll carried:
with A unlike its T the queue stays; with A equal to it the head leaves and its owner acts. After SHOW and INLET the held
one joins the tail. GATE: the flight's gate is taken, and with returns owed one GATE RETURN is offered. PAY: payout taken
(the session's own, log entry 29).
ESCROW RETURN: its value is paid back; ESCROW DROP: its coins go into tubes or the cashbox; a held request follows. PRINT:
its lines are taken, and with CUT the job ends.

A good reply to a poll with RESYNC, NIL or STATUS: with A = 1 resync pending is cleared and the last toggle is 1; with
A = 0 resync pending stays. No head is taken: a NIL, and a first STATUS that changes no value, leave the queue as it is,
and any STATUS keeps the kind and the sent mark of every command in it, offers of the blocks it reaches behind them. -/
def Obligations.ToggleDecidesTakeAndResync : Prop :=
  (∀ (l : LoopId) (a : Bool) (kind : Byte) (p : List Byte) (s : State) (x : Exchange) (sent : Option Bool) (cmd : Cmd)
     (rest : List QCmd),
     (s.loop l).exchange = some x → x.poll = .command → (s.link x.kiosk).state = .present →
     (s.link x.kiosk).queue = { cmd := cmd, sent := sent } :: rest → parseReply .a false kind p = none →
     let k := x.kiosk
     let kept := s.updLink k (fun y => { y with missCount := 0 })
     let took := s.updLink k (fun y => { y with missCount := 0, queue := rest })
     ∀ c : Instr, c = .nil l a ∨ c = .malformedReply l a kind p →
       (sent ≠ some a → exec c s = .next (nextPoll l kept)) ∧
       (sent = some a →
         (∀ d, cmd = .show d → exec c s = .next (nextPoll l (took.updLink k (fun y =>
           { y with heldShow := none,
                    queue := rest ++ (match y.heldShow with | some h => [{ cmd := .show h, sent := none }] | none => []) })))) ∧
         (∀ i, cmd = .inlet i → exec c s = .next (nextPoll l (took.updLink k (fun y =>
           { y with heldInlet := none,
                    queue := rest ++ (match y.heldInlet with | some h => [{ cmd := .inlet h, sent := none }] | none => []) })))) ∧
         (∀ w, cmd = .cardWrite w → exec c s = .next (nextPoll l took)) ∧
         (∀ route reason, cmd = .gate route reason →
           (∀ f, (s.coin k).flight = some f → f.gateTaken = true ∨ (f.route = route ∧ f.reason = reason)) →
           countKind rest .gate = 0 →
           let taken := (s.coin k).flight.map (fun f => { f with gateTaken := true })
           ((s.coin k).returnsOwed = 0 →
             exec c s = .next (nextPoll l (took.updCoin k (fun y => { y with flight := taken })))) ∧
           (0 < (s.coin k).returnsOwed → exec c s = .next (nextPoll l (took.upd k (fun y =>
             { y with coin := { y.coin with flight := taken, returnsOwed := y.coin.returnsOwed - 1 },
                      link := { y.link with queue := rest ++ [{ cmd := .gate .ret .secondCoin, sent := none }] } }))))) ∧
         (∀ list, cmd = .pay list →
           ((s.sess k).payoutOut = true → (s.sess k).payTaken = false → exec c s = .next (nextPoll l (took.upd k (fun y =>
             { y with sess := { y.sess with payTaken := true },
                      cash := { y.cash with order := y.cash.order.map (fun o => { o with taken := true }) } })))) ∧
           ((s.sess k).payoutOut = false ∨ (s.sess k).payTaken = true → exec c s = .next (nextPoll l took))) ∧
         (∀ action n dests e, cmd = .escrow action n dests → (s.cash k).escrowCmd = some e →
           (e.action = .ret → e.origin = .session → (s.cash k).held = [] → (s.sess k).payoutOut = true →
             exec c s = .next (nextPoll l (took.upd k (fun y =>
               { y with cash := { y.cash with escrowCmd := none },
                        sess := { y.sess with paidBack := y.sess.paidBack + (e.entries.map (·.value)).sum,
                                              returnOut := false } })))) ∧
           (e.action = .drop → ∃ w, exec c s = .next (nextPoll l w) ∧ w.sess k = s.sess k ∧
             (w.cash k).escrow = (s.cash k).escrow ∧
             (w.cash k).strandedMark = (if e.origin = .stranded then false else (s.cash k).strandedMark) ∧
             (let coins := (e.entries.zip e.dests).map (dropTube (s.cash k).tubes)
              (w.cash k).cashboxCount = min 65535 ((s.cash k).cashboxCount + coins.count none) ∧
              ∀ m : TubeNo, ((s.cash k).tubes[m]).count ≤ ((s.cash k).tubes[m]).capacity →
                ((w.cash k).tubes[m]).count =
                  min ((s.cash k).tubes[m]).capacity (((s.cash k).tubes[m]).count + coins.count (some m)) ∧
                ((w.cash k).tubes[m]).coinType = ((s.cash k).tubes[m]).coinType) ∧
             ((s.cash k).held = [] → (w.cash k).escrowCmd = none) ∧
             (∀ r rs, (s.cash k).held = r :: rs → countKind rest .escrow = 0 →
               (w.cash k).held = rs ∧
               (w.cash k).escrowCmd.map (fun e => (e.action, e.entries, e.origin)) = some (r.action, r.entries, .session)))) ∧
         (∀ lines cut j js, cmd = .print lines cut → s.jobs k = j :: js →
           exec c s = .next (nextPoll l (took.setJobs k (
             if cut then (match js with
               | [] => []
               | i :: is => { i with state := if (s.link k).paper.value = .out then .suspended else .streaming } :: is)
             else { j with taken := j.taken + lines.length, inFlight := j.inFlight - lines.length } :: js)))))) ∧
  (∀ (l : LoopId) (a : Bool) (s : State) (x : Exchange),
     (s.loop l).exchange = some x → x.poll = .resync → (s.link x.kiosk).state = .present →
     let k := x.kiosk
     let synced := fun (y : KLink) =>
       if a then { y with missCount := 0, resyncPending := false, lastToggle := true } else { y with missCount := 0 }
     exec (.nil l a) s = .next (nextPoll l (s.updLink k synced)) ∧
     ∀ (d : DoorIn) (b : CashboxIn) (p : PaperIn) (v : ServiceIn),
       ∃ w, exec (.status l a d b p v) s = .next (nextPoll l w) ∧
         (w.link k).resyncPending = (if a then false else (s.link k).resyncPending) ∧
         (w.link k).lastToggle = (if a then true else (s.link k).lastToggle) ∧ (w.link k).missCount = 0 ∧
         (w.link k).firstStatusPending = false ∧ (w.link k).pollNumber = (s.link k).pollNumber ∧
         (∃ more, (w.link k).queue.map (fun q => (q.cmd.kind, q.sent)) =
           (s.link k).queue.map (fun q => (q.cmd.kind, q.sent)) ++ more) ∧
         ((s.link k).firstStatusPending = true → (s.link k).door.value = d → (s.link k).cashbox.value = b →
           (s.link k).paper.value = p → (s.link k).service.value = v →
           w = s.updLink k (fun y => { synced y with firstStatusPending := false })))

/-- A poll to a PRESENT kiosk whose resync is done carries its head: an unsent head is given the opposite of the last
toggle, which becomes the last toggle, and is marked sent; a sent head goes again with its own T; an empty queue gives a
POLL frame with the last toggle; while resync is pending each poll is a POLL frame with RESYNC (its T is free, log entry
3). The poll number advances 1, 2, 3, 4, 1, and the poll numbered 1 carries STATUS-WANTED.

The schedule: the PRESENT kiosks left in the round are polled ascending; then the next ABSENT kiosk of the rotation after
its position, wrapping, gets a rediscovery poll; then a new round begins over the PRESENT kiosks, and kiosks configured in
the last round join the rotation. With none PRESENT rediscovery polls go back to back, and a loop with no configured kiosk
sends nothing. That a round whose only ABSENT kiosks wait so ends without a rediscovery poll is the model's reading (log
entry 26). -/
def Obligations.PollCarriesHead : Prop :=
  (∀ (l : LoopId) (k : Kiosk) (round : List Kiosk) (fresh : Bool) (s : State),
    let t := pollPresent l k round fresh s
    let wanted := if (s.link k).pollNumber = 1 then 2 else 0
    let poll := fun (pk : PollKind) (kind : Byte) (control : Nat) (payload : List Byte) =>
      (t.loop l).exchange = some
        { kiosk := k, poll := pk, rate := (s.loop l).rate,
          frame := Frame.bytes
            { addr := BitVec.ofNat 8 k.val, kind := kind, control := BitVec.ofNat 8 control, payload := payload } }
    ((t.link k).pollNumber = (if (s.link k).pollNumber < 4 then (s.link k).pollNumber + 1 else 1) ∧
      (t.link k).resyncPending = (s.link k).resyncPending ∧ (t.loop l).round = round ∧
      ∀ j, t.sess j = s.sess j ∧ t.coin j = s.coin j ∧ t.cash j = s.cash j ∧ t.disp j = s.disp j ∧ t.jobs j = s.jobs j) ∧
    ((s.link k).resyncPending = false → ∀ (c : QCmd) (rest : List QCmd), (s.link k).queue = c :: rest →
      let toggle := c.sent.getD (!(s.link k).lastToggle)
      (t.link k).queue = { cmd := c.cmd, sent := some toggle } :: rest ∧
      (t.link k).lastToggle = (if c.sent = none then toggle else (s.link k).lastToggle) ∧
      poll .command c.cmd.kind.frameKind ((if toggle then 1 else 0) + wanted) c.cmd.payload) ∧
    ((s.link k).resyncPending = false → (s.link k).queue = [] →
      (t.link k).queue = [] ∧ (t.link k).lastToggle = (s.link k).lastToggle ∧
      poll .poll 0x10 ((if (s.link k).lastToggle then 1 else 0) + wanted) []) ∧
    ((s.link k).resyncPending = true →
      (t.link k).queue = (s.link k).queue ∧ (t.link k).lastToggle = (s.link k).lastToggle ∧
      ∃ toggle : Bool, poll .resync 0x10 ((if toggle then 1 else 0) + wanted + 4) [])) ∧
  (∀ (l : LoopId) (k : Kiosk) (s : State),
    let t := pollAbsent l k s
    t.kiosks = s.kiosks ∧ (t.loop l).rotation = k ∧ (t.loop l).rediscovered = true ∧ (t.loop l).round = [] ∧
    (t.loop l).joining = (s.loop l).joining ∧
    (t.loop l).exchange = some
      { kiosk := k, poll := .rediscovery, rate := (s.loop l).rate,
        frame := Frame.bytes
          { addr := BitVec.ofNat 8 k.val, kind := 0x10, control := if (s.link k).lastToggle then 1 else 0, payload := [] } }) ∧
  ∀ (l : LoopId) (s : State), loopOf (s.loop l).rotation = l →
    let absent := fun (k : Kiosk) => loopOf k = l ∧ (s.link k).state = .absent
    let after := fun (k : Kiosk) => (k.val + 15 - (s.loop l).rotation.val) % 8
    let presents := (loopKiosks l).filter (fun k => decide ((s.link k).state = .present))
    let joined := s.setLoop l { s.loop l with joining := [] }
    (∀ gone k ks, (s.loop l).round = gone ++ k :: ks → (∀ j ∈ gone, (s.link j).state ≠ .present) →
      (s.link k).state = .present → nextPoll l s = pollPresent l k ks false s) ∧
    ((∀ j ∈ (s.loop l).round, (s.link j).state ≠ .present) →
      ((s.loop l).rediscovered = false → ∀ k, absent k → k ∉ (s.loop l).joining →
        (∀ j, absent j → j ∉ (s.loop l).joining → after k ≤ after j) → nextPoll l s = pollAbsent l k s) ∧
      ((s.loop l).rediscovered = true ∨ (∀ k, absent k → k ∈ (s.loop l).joining) →
        (∀ k ks, presents = k :: ks → nextPoll l s = pollPresent l k ks true joined) ∧
        (presents = [] →
          (∀ k, absent k → (∀ j, absent j → after k ≤ after j) → nextPoll l s = pollAbsent l k joined) ∧
          ((∀ k, loopOf k = l → (s.link k).state = .unused) →
            ((nextPoll l s).loop l).exchange = none ∧ (nextPoll l s).kiosks = s.kiosks))))

/-- The two loops are independent: a reply or a miss on one loop leaves the other loop's table entry, exchange and
schedule as they are, and the link part of each of its kiosks: queue, held commands, misses, toggle, poll number, inputs.

The last clause rests on each loop polling kiosks of its own, which every step keeps. -/
def Obligations.LoopsAreIndependent : Prop :=
  (∀ (c : Instr) (l m : LoopId) (s t : State),
    (c.missLine = some l ∨ ∃ a, c.replyLine = some (l, a)) → m ≠ l → exec c s = .next t →
    t.loop m = s.loop m ∧ (s.pollsOwn → ∀ k, loopOf k = m → t.link k = s.link k)) ∧
  ∀ s t : State, s.pollsOwn → step s = .next t → t.pollsOwn

/-- The per-kind bounds of every outbound queue hold after every step from a state in which they hold: two PRINTs,
one command of every other kind. -/
def Obligations.QueueBoundsKeptByEveryStep : Prop :=
  ∀ s t : State, s.queuesWf → step s = .next t → t.queuesWf

/-- A STATUS applies the table of R17 to each of the four filters, once the first status has been handled; the first
STATUS sets all four filtered values and clears its mark.

A filtered change then acts: a door edge that the loop's selection names, opening or closing, sets the door report flag,
and its loop's door event is pending; CASHBOX FULL blocks the inlet, and OK takes the cause away in FOLLOWING mode;
PAPER OUT suspends a head job with unsent lines, LOW and OK resume one; SERVICE sets and clears its cause and the IDLE
message. An input that does not change does nothing. That a head with no line taken resumes without RESUMED is the model's reading (log entry 21). -/
def Obligations.StatusInputsAreFiltered : Prop :=
  ∀ (l : LoopId) (a : Bool) (k : Kiosk) (d : DoorIn) (b : CashboxIn) (p : PaperIn) (v : ServiceIn) (s : State),
    s.polls l k →
    ∃ t, exec (.status l a d b p v) s = .next t ∧
      (t.link k).firstStatusPending = false ∧ (t.link k).state = .present ∧
      ((s.link k).firstStatusPending = false →
        (s.link k).door.follows d (t.link k).door ∧ (s.link k).cashbox.follows b (t.link k).cashbox ∧
        (s.link k).paper.follows p (t.link k).paper ∧ (s.link k).service.follows v (t.link k).service) ∧
      ((s.link k).firstStatusPending = true →
        (t.link k).door.value = d ∧ (t.link k).cashbox.value = b ∧ (t.link k).paper.value = p ∧ (t.link k).service.value = v) ∧
      FilteredChangesActed k (s.acked l a) t

/-! ### Coins (chapter 2) -/

/-- The classification by the number of valid entries whose three windows, bounds included, hold the signature: none
gives UNKNOWN, two or more AMBIGUOUS whatever their uses, one of use REFUSE gives REFUSED and one of use ACCEPT a
candidate with its index and value. A classification reject is routed RETURN with the reason shown. -/
def Obligations.ClassificationByMatchingEntries : Prop :=
  (∀ (coins : Vector (Option CoinEntry) 16) (n1 n2 n3 : Nat),
    let fits := fun (i : CoinType) (e : CoinEntry) => coins[i] = some e ∧
      e.low1 ≤ n1 ∧ n1 ≤ e.high1 ∧ e.low2 ≤ n2 ∧ n2 ≤ e.high2 ∧ e.low3 ≤ n3 ∧ n3 ≤ e.high3
    ((∀ i e, ¬ fits i e) → classify coins n1 n2 n3 = .unknown) ∧
    (∀ i j e f, i ≠ j → fits i e → fits j f → classify coins n1 n2 n3 = .ambiguous) ∧
    (∀ i e, fits i e → (∀ j f, fits j f → j = i) →
      (e.use = .refuse → classify coins n1 n2 n3 = .refused i) ∧
      (e.use = .accept → classify coins n1 n2 n3 = .candidate i e.value))) ∧
  (∀ (k : Kiosk) (r1 r2 r3 : Nat) (s : State),
    let c := classify s.coins (normalise r1 (s.coin k).calib1) (normalise r2 (s.coin k).calib2) (normalise r3 (s.coin k).calib3)
    (c = .unknown → decideCoin k r1 r2 r3 s = ⟨none, none, .ret, .unknown⟩) ∧
    (c = .ambiguous → decideCoin k r1 r2 r3 s = ⟨none, none, .ret, .ambiguous⟩) ∧
    (∀ i, c = .refused i → decideCoin k r1 r2 r3 s = ⟨some i, none, .ret, .refused⟩) ∧
    (∀ i v, c = .candidate i v → decideCoin k r1 r2 r3 s = decideCandidate k i v s))

/-- A COIN in PAYING whose candidate does not overpay, or whose change is makeable with a coin more in the tube of its
route, at an OPEN inlet with no coin ahead of it, is accepted: it becomes the coin in flight with its credit value and
route, its GATE joins the tail, the reject run is 0 and the inactivity timer starts again. A candidate is rejected
INLET_BLOCKED at a BLOCKED inlet, else NOT_PAYING outside PAYING, else NO_CHANGE: its flight has no credit and its GATE is
RETURN; in PAYING the run rises.

The route of an accepted coin: ESCROW while the escrow list and the held requests hold fewer than four coins,
else the tube of its type while it has room, else CASHBOX. -/
def Obligations.CoinWithinDueAcceptedAndRouted : Prop :=
  (∀ (l : LoopId) (a : Bool) (k : Kiosk) (r1 r2 r3 v : Nat) (i : CoinType) (s : State),
     s.polls l k → r1 ≤ 1023 → r2 ≤ 1023 → r3 ≤ 1023 →
     let u := s.acked l a
     (u.coin k).flight = none → (u.coin k).returnsOwed = 0 → u.gateBusy k = false →
     classify u.coins (normalise r1 (u.coin k).calib1) (normalise r2 (u.coin k).calib2) (normalise r3 (u.coin k).calib3) =
       .candidate i v →
     let route := coinRoute (u.cash k) i
     let viewed := match route with
       | .tube n => (u.cash k).tubes.set n { (u.cash k).tubes[n] with count := ((u.cash k).tubes[n]).count + 1 }
       | _ => (u.cash k).tubes
     let rejected := fun (reason : Reason) =>
       ∃ w, exec (.coin l a r1 r2 r3) s = .next (nextPoll l w) ∧
         (w.coin k).flight = some { coinType := some i, credit := none, route := .ret, reason := reason,
                                    gateTaken := false, released := false } ∧
         { cmd := .gate .ret reason, sent := none } ∈ (w.link k).queue ∧ (w.coin k).returnsOwed = 0 ∧
         (w.sess k).credit = (u.sess k).credit ∧ (w.cash k).escrow = (u.cash k).escrow ∧
         (w.cash k).tubes = (u.cash k).tubes ∧ w.journal = u.journal ∧
         (w.sess k).rejectRun = (if (u.sess k).state = .paying ∧ (u.sess k).rejectRun < 8 then (u.sess k).rejectRun + 1
                                 else (u.sess k).rejectRun)
     ((u.cash k).inlet.state = .blocked → rejected .inletBlocked) ∧
     ((u.cash k).inlet.state = .opened → (u.sess k).state ≠ .paying → rejected .notPaying) ∧
     ∀ p : PriceRecord, (u.cash k).inlet.state = .opened → (u.sess k).state = .paying → (u.sess k).fixed = some p →
       let change := makeChange ((u.sess k).credit + v - p.due) (participants u.coinValue viewed)
       (p.due < (u.sess k).credit + v → change.makeable = false → rejected .noChange) ∧
       ((u.sess k).credit + v ≤ p.due ∨ change.makeable = true →
         exec (.coin l a r1 r2 r3) s = .next (nextPoll l (u.upd k (fun c =>
           { c with
             coin := { c.coin with flight := some { coinType := some i, credit := some v, route := route, reason := .none,
                                                    gateTaken := false, released := false } },
             link := { c.link with queue := c.link.queue ++ [{ cmd := .gate route .none, sent := none }] },
             sess := { c.sess with rejectRun := 0, tInactivity := some u.settings.inactivity } }))))) ∧
  (∀ (c : KCash) (t : CoinType),
     (c.escrow.length + (c.held.map (fun r => r.entries.length)).sum < 4 → coinRoute c t = .escrow) ∧
     (4 ≤ c.escrow.length + (c.held.map (fun r => r.entries.length)).sum →
       (∀ n : TubeNo, (c.tubes[n]).coinType = some t → (∀ m : TubeNo, (c.tubes[m]).coinType = some t → m = n) →
         ((c.tubes[n]).count < (c.tubes[n]).capacity → coinRoute c t = .tube n) ∧
         ((c.tubes[n]).capacity ≤ (c.tubes[n]).count → coinRoute c t = .cashbox)) ∧
       ((∀ n : TubeNo, (c.tubes[n]).coinType ≠ some t) → coinRoute c t = .cashbox)))

/-- A second coin: the coin ahead of it keeps its record; its GATE RETURN is offered if no GATE waits and no return is
owed, else one more return is owed, at most 8. In PAYING the reject run rises by 1, at most to 8, and the reject that
brings it to 8 blocks the inlet with cause REJECT_RUN of this session. -/
def Obligations.SecondCoinReturned : Prop :=
  ∀ (l : LoopId) (a : Bool) (k : Kiosk) (r1 r2 r3 : Nat) (s : State),
    s.polls l k → r1 ≤ 1023 → r2 ≤ 1023 → r3 ≤ 1023 →
    let u := s.acked l a
    ((u.coin k).flight.isSome = true ∨ u.gateBusy k = true ∨ 0 < (u.coin k).returnsOwed) →
    ∃ w, exec (.coin l a r1 r2 r3) s = .next (nextPoll l w) ∧
      (w.coin k).flight = (u.coin k).flight ∧
      (u.gateBusy k = false ∧ (u.coin k).returnsOwed = 0 →
        (w.coin k).returnsOwed = 0 ∧ { cmd := .gate .ret .secondCoin, sent := none } ∈ (w.link k).queue) ∧
      (u.gateBusy k = true ∨ 0 < (u.coin k).returnsOwed →
        (w.coin k).returnsOwed = (if (u.coin k).returnsOwed < 8 then (u.coin k).returnsOwed + 1 else (u.coin k).returnsOwed)) ∧
      ((u.sess k).state = .paying →
        (w.sess k).rejectRun = (if (u.sess k).rejectRun < 8 then (u.sess k).rejectRun + 1 else (u.sess k).rejectRun)) ∧
      ((u.sess k).state ≠ .paying → (w.sess k).rejectRun = (u.sess k).rejectRun) ∧
      ((u.sess k).state = .paying → (u.sess k).rejectRun = 7 →
        (w.cash k).inlet.state = .blocked ∧ (w.cash k).inlet.rejectRun = true ∧
        (w.cash k).inlet.runSession = some (u.sess k).serial) ∧
      (w.sess k).credit = (u.sess k).credit ∧ (w.cash k).escrow = (u.cash k).escrow ∧ (w.cash k).tubes = (u.cash k).tubes ∧
      w.journal = u.journal

/-- A COIN table write that is taken replaces the entry, and every kiosk's coin in flight that was accepted and whose
gate is not taken is returned with reason TABLE_CHANGED, with its type and credit kept; so is its queued GATE. Every
other flight, and every session's figures, stay. -/
def Obligations.CoinWriteReturnsCoinsInFlight : Prop :=
  ∀ (index : Byte) (u : CoinUnit) (i : CoinType) (e : Option CoinEntry) (s : State),
    s.hears → index.toNat = i.val →
    ((u.valid = 0 ∧ e = none) ∨
     (u.valid = 1 ∧ u.use.toNat ≤ 1 ∧ 1 ≤ u.value.toNat ∧ u.value.toNat ≤ 500 ∧ u.low1.toNat ≤ u.high1.toNat ∧
      u.low2.toNat ≤ u.high2.toNat ∧ u.low3.toNat ≤ u.high3.toNat ∧
      e = some { value := u.value.toNat, low1 := u.low1.toNat, high1 := u.high1.toNat, low2 := u.low2.toNat,
                 high2 := u.high2.toNat, low3 := u.low3.toNat, high3 := u.high3.toNat,
                 use := if u.use = 0 then .accept else .refuse })) →
    ∃ t, exec (.tableWriteCoin index u) s = .next t ∧
      t.coins = s.coins.set i e ∧ t.depot.reply = some (replyFrame 0x42 { status := .ok, data := [] } t) ∧
      t.journal = s.journal ∧ t.tariff = s.tariff ∧ t.settings = s.settings ∧
      ∀ k, (t.coin k).flight = (s.coin k).flight.map (fun f =>
              if f.reason = .none ∧ f.gateTaken = false then { f with route := .ret, reason := .tableChanged } else f) ∧
        (t.coin k).returnsOwed = (s.coin k).returnsOwed ∧ t.sess k = s.sess k ∧ t.cash k = s.cash k ∧ t.jobs k = s.jobs k ∧
        (∀ f, (s.coin k).flight = some f → f.reason = .none → f.gateTaken = false →
          ∀ q ∈ (t.link k).queue, q.cmd.kind = .gate → q.cmd = .gate .ret .tableChanged)

/-- A landing ends the flight, and the Cash Unit counts the coin where it landed: the escrow while it has room, a tube of
its type, else the cashbox; a tube of another type turns SUSPECT. An accepted coin short of the due raises the credit and
its type's accepted count; the one that reaches the due leads a paper sale to its change and a card sale or top-up to its
write. A coin without credit, and a stray landing, move no session; a RETURN adds nothing.

In CANCELLING the landing, with credit or without, begins the refund, with the credit as it then stands; a coin that
joins the escrow goes back with it. That a coin landing in the escrow beside more than four entries counts into the cashbox
is the model's reading (log entry 11). -/
def Obligations.LandingCreditsAcceptedCoin : Prop :=
  ∀ (l : LoopId) (a : Bool) (k : Kiosk) (dest : Dest) (s : State), s.polls l k →
    let u := s.acked l a
    (∀ n : TubeNo, ((u.cash k).tubes[n]).count ≤ ((u.cash k).tubes[n]).capacity) →
    (∀ (f : Flight) (i : CoinType) (v : Nat) (p : PriceRecord),
      (u.coin k).flight = some f → f.coinType = some i → f.credit = some v → f.released = false → 0 < v → dest ≠ .ret →
      (u.sess k).state = .paying → (u.sess k).fixed = some p →
      let accepted := (u.sess k).accepted.set i (min 255 ((u.sess k).accepted[i] + 1))
      ((u.sess k).credit + v < p.due →
        ∃ w, exec (.landed l a dest) s = .next (nextPoll l w) ∧ (w.coin k).flight = none ∧
          (u.cash k).Lands dest (some i) v (w.cash k) ∧ (w.sess k).state = .paying ∧
          (w.sess k).credit = (u.sess k).credit + v ∧ (w.sess k).accepted = accepted ∧
          (dest = .escrow → (u.cash k).escrow.length + (u.cash k).heldCount < 4 →
            (w.sess k).escrowValue = escrowSum (u.cash k).escrow + v) ∧
          (w.disp k).credit = (w.sess k).credit ∧ (w.disp k).remaining = p.due - (w.sess k).credit ∧ w.journal = u.journal) ∧
      (p.due ≤ (u.sess k).credit + v →
        ∃ w, exec (.landed l a dest) s = .next (nextPoll l w) ∧ (w.coin k).flight = none ∧
          (w.sess k).credit = (u.sess k).credit + v ∧ (w.sess k).accepted = accepted ∧ (w.sess k).tInactivity = none ∧
          (u.cash k).CountedIn dest (some i) (w.cash k) ∧
          ((w.sess k).state = .writing ∨ ((w.sess k).state = .dispensing ∧ (w.sess k).purpose = .change) →
            (u.cash k).Lands dest (some i) v (w.cash k)) ∧
          ((u.sess k).kind = .paperSale →
            (w.sess k).purpose = .change ∧ (w.sess k).changeDue = (u.sess k).credit + v - p.due ∧
            ((w.sess k).state = .dispensing ∨ (w.sess k).state = .idle)) ∧
          (∀ c, (u.sess k).kind ≠ .paperSale → (u.sess k).card = some c →
            (c.number ∈ u.cards.stopList → (w.sess k).write = .failed ∧ (w.sess k).purpose = .refund) ∧
            (c.number ∉ u.cards.stopList → countKind (u.link k).queue .cardWrite = 0 →
              (w.sess k).state = .writing ∧ (w.sess k).write = .issued ∧ (w.sess k).tCardWrite = some 8 ∧
              (w.disp k).message = .writingCard ∧
              ∃ x, (w.kcard k).issued = some x ∧ x.card = c.number ∧ x.expected = c.counter ∧
                (∀ amount fee, p.detail = .topup amount fee → x.balance = c.balance + amount))))) ∧
    ((∃ f, (u.coin k).flight = some f ∧ (f.credit = none ∨ f.released = true ∨ dest = .ret) ∧
        (u.sess k).state ≠ .cancelling) ∨ (u.coin k).flight = none →
      ∃ w, exec (.landed l a dest) s = .next (nextPoll l w) ∧ (w.coin k).flight = none ∧
        (u.cash k).Lands dest ((u.coin k).flight.bind (·.coinType)) 0 (w.cash k) ∧
        (w.sess k).state = (u.sess k).state ∧ (w.sess k).credit = (u.sess k).credit ∧
        (w.sess k).accepted = (u.sess k).accepted ∧ w.journal = u.journal ∧
        (dest = .ret → w = u.updCoin k (fun c => { c with flight := none }))) ∧
    (∀ f : Flight, (u.coin k).flight = some f → (f.credit.isSome = true → f.coinType.isSome = true) →
      (u.sess k).state = .cancelling →
      let v := if dest = .ret ∨ f.released = true then 0 else f.credit.getD 0
      let inEscrow := dest = .escrow ∧ (u.cash k).escrow.length + (u.cash k).heldCount < 4
      ∃ w, exec (.landed l a dest) s = .next (nextPoll l w) ∧ (w.coin k).flight = none ∧
        (u.cash k).CountedIn dest f.coinType (w.cash k) ∧ (w.sess k).purpose = .refund ∧
        (w.sess k).credit = (u.sess k).credit + v ∧
        (∀ i, f.coinType = some i → (w.sess k).accepted =
          if dest = .ret ∨ f.released = true ∨ f.credit = none then (u.sess k).accepted
          else (u.sess k).accepted.set i (min 255 ((u.sess k).accepted[i] + 1))) ∧
        (w.sess k).changeDue = (w.sess k).credit -
          (if inEscrow ∧ 0 < v then escrowSum (u.cash k).escrow + v else (u.sess k).escrowValue) ∧
        ((w.sess k).state = .dispensing ∨ (w.sess k).state = .idle) ∧
        ((w.sess k).state = .dispensing → (w.disp k).message =
          if (u.sess k).cancelCause = some .cardBlocked then .cardBlocked else .refund) ∧
        (inEscrow → (w.sess k).state = .dispensing ∧ (w.sess k).returnOut = true ∧ (w.cash k).escrow = [] ∧
          ((u.cash k).held = [] → countKind (u.link k).queue .escrow = 0 →
            (w.cash k).escrowCmd =
              some { action := .ret, entries := (u.cash k).escrow ++ [{ coinType := f.coinType, value := v }], dests := [],
                     origin := .session })))

/-! ### Escrow, tubes and inlet (chapter 3) -/

/-- The destinations of an ESCROW DROP, one per entry in order: an entry goes to the tube that holds its type while that
tube's count and the entries already sent there are below its capacity, and to the CASHBOX otherwise, as does every entry
without a type or whose type no tube holds. So no tube is sent more coins than it has room for. -/
def Obligations.DropFitsTheTubes : Prop :=
  ∀ (tubes : Vector Tube 6) (entries : List EscrowEntry),
    let dests := dropDests tubes [] entries
    dests.length = entries.length ∧
    (∀ (i : Nat) (e : EscrowEntry), entries[i]? = some e →
      (∀ (n : TubeNo) (t : CoinType), e.coinType = some t → (tubes[n]).coinType = some t →
        (∀ m : TubeNo, (tubes[m]).coinType = some t → m = n) →
        dests[i]? = some (if (tubes[n]).count + (dests.take i).countP (fun d => decide (d = .tube n)) < (tubes[n]).capacity
          then .tube n else .cashbox)) ∧
      ((∀ (n : TubeNo) (t : CoinType), e.coinType = some t → (tubes[n]).coinType ≠ some t) → dests[i]? = some .cashbox)) ∧
    (∀ n : TubeNo, (tubes[n]).count ≤ (tubes[n]).capacity →
      (tubes[n]).count + dests.countP (fun d => decide (d = .tube n)) ≤ (tubes[n]).capacity) ∧
    ∀ p ∈ entries.zip dests,
      p.2 = .cashbox ∨ ∃ (n : TubeNo) (t : CoinType), p.2 = .tube n ∧ p.1.coinType = some t ∧ (tubes[n]).coinType = some t

/-- A TUBE write that is taken, for a kiosk whose session is IDLE and whose other tubes do not hold the type: the
record is the written one, PAYABLE, with its low flag judged, and TUBE_LOW is raised where the flag is newly set; no
other tube, no escrow and no session changes. A write of the coin type none empties the tube, which keeps its capacity
and low mark (log entry 12). -/
def Obligations.TubeWriteReplacesRecord : Prop :=
  ∀ (index tube : Byte) (u : TubeUnit) (k : Kiosk) (n : TubeNo) (s : State),
    s.hears → index.toNat = k.val → tube.toNat = n.val → (s.sess k).state = .idle →
    (∀ i : CoinType, u.coinType.toNat = i.val → 1 ≤ u.capacity.toNat → u.capacity.toNat ≤ 250 →
      u.count.toNat ≤ u.capacity.toNat → u.lowMark.toNat ≤ u.capacity.toNat →
      (∀ m : TubeNo, m ≠ n → ((s.cash k).tubes[m]).coinType ≠ some i) →
      ∃ t, exec (.tableWriteTube index tube u) s = .next t ∧
        (t.cash k).tubes = (s.cash k).tubes.set n
          { coinType := some i, capacity := u.capacity.toNat, count := u.count.toNat, lowMark := u.lowMark.toNat,
            state := .payable, lowFlag := decide (u.count.toNat ≤ u.lowMark.toNat) } ∧
        (u.count.toNat ≤ u.lowMark.toNat → ((s.cash k).tubes[n]).lowFlag = false →
          (t.depot.events[EventKind.tubeLow.no]).on = true ∧ k ∈ (t.depot.events[EventKind.tubeLow.no]).kiosks) ∧
        t.depot.reply = some (replyFrame 0x42 { status := .ok, data := [] } t) ∧
        (t.cash k).escrow = (s.cash k).escrow ∧ (t.cash k).inlet = (s.cash k).inlet ∧ t.coins = s.coins ∧
        (∀ j, j ≠ k → t.cash j = s.cash j) ∧ ∀ j, t.sess j = s.sess j ∧ t.coin j = s.coin j) ∧
    (u.coinType = 0xFF#8 →
      ∃ t, exec (.tableWriteTube index tube u) s = .next t ∧
        (t.cash k).tubes = (s.cash k).tubes.set n
          { (s.cash k).tubes[n] with coinType := none, count := 0, state := .payable, lowFlag := false } ∧
        t.depot.reply = some (replyFrame 0x42 { status := .ok, data := [] } t) ∧
        (t.cash k).escrow = (s.cash k).escrow ∧ (t.cash k).inlet = (s.cash k).inlet ∧ t.coins = s.coins ∧
        (∀ j, j ≠ k → t.cash j = s.cash j) ∧ ∀ j, t.sess j = s.sess j ∧ t.coin j = s.coin j)

/-- A FILL while the session is IDLE sets every tube in use to the reported count, at most its capacity, and PAYABLE,
leaves the other tubes, clears the cashbox count and raises SERVICE_FILL; in any other session state it is ignored. -/
def Obligations.FillAdoptsCounts : Prop :=
  ∀ (l : LoopId) (a : Bool) (k : Kiosk) (counts : Vector Nat 6) (s : State),
    s.polls l k → (∀ n : TubeNo, counts[n] ≤ 250) →
    let u := s.acked l a
    ((u.sess k).state = .idle →
      ∃ w, exec (.fill l a counts) s = .next (nextPoll l w) ∧
        (∀ n : TubeNo,
          (((u.cash k).tubes[n]).coinType = none → (w.cash k).tubes[n] = (u.cash k).tubes[n]) ∧
          (((u.cash k).tubes[n]).coinType ≠ none →
            ((w.cash k).tubes[n]).count = min counts[n] ((u.cash k).tubes[n]).capacity ∧
            ((w.cash k).tubes[n]).state = .payable ∧ ((w.cash k).tubes[n]).coinType = ((u.cash k).tubes[n]).coinType ∧
            ((w.cash k).tubes[n]).capacity = ((u.cash k).tubes[n]).capacity)) ∧
        (w.cash k).cashboxCount = 0 ∧ (w.cash k).escrow = (u.cash k).escrow ∧
        (w.depot.events[EventKind.serviceFill.no]).on = true ∧ k ∈ (w.depot.events[EventKind.serviceFill.no]).kiosks ∧
        w.sess k = u.sess k) ∧
    ((u.sess k).state ≠ .idle → exec (.fill l a counts) s = .next (nextPoll l u))

/-- A PAYREPORT in DISPENSING, after the take of the session's PAY: the value counted is the sum over the payout list
of the smaller of dispensed and commanded count times the coin's value; it is paid back and the payout ends. The tubes
of the order that dispensed short are empty and SUSPECT, and every other tube in use loses what it dispensed.

The payout timer running out in DISPENSING ends the payout: the tubes of the order are SUSPECT, the order is
cleared, and nothing is paid back for it. -/
def Obligations.PayoutEndsByReportOrTimer : Prop :=
  (∀ (l : LoopId) (a : Bool) (k : Kiosk) (counts : Vector Nat 6) (o : PayOrder) (s : State),
     s.polls l k → (∀ n : TubeNo, counts[n] ≤ 250) →
     let u := s.acked l a
     (u.sess k).state = .dispensing → (u.sess k).payoutOut = true → (u.sess k).payTaken = true →
     (u.cash k).order = some o → o.taken = true →
     ∃ w, exec (.payReport l a counts) s = .next (nextPoll l w) ∧
       (w.sess k).paidBack = (u.sess k).paidBack + ((u.sess k).payout.map (fun e => min counts[e.tube] e.count * e.value)).sum ∧
       (w.sess k).payoutOut = false ∧ (w.sess k).tPayout = none ∧ (w.cash k).order = none ∧
       ∀ n : TubeNo,
         (((u.cash k).tubes[n]).coinType = none → (w.cash k).tubes[n] = (u.cash k).tubes[n]) ∧
         (((u.cash k).tubes[n]).coinType ≠ none → (∃ e ∈ o.entries, e.1 = n) → counts[n] < commanded o.entries n →
           ((w.cash k).tubes[n]).count = 0 ∧ ((w.cash k).tubes[n]).state = .suspect) ∧
         (((u.cash k).tubes[n]).coinType ≠ none → ((∀ e ∈ o.entries, e.1 ≠ n) ∨ commanded o.entries n ≤ counts[n]) →
           ((w.cash k).tubes[n]).count = ((u.cash k).tubes[n]).count - counts[n] ∧
           ((w.cash k).tubes[n]).state = ((u.cash k).tubes[n]).state)) ∧
  (∀ (k : Kiosk) (o : PayOrder) (s : State),
     (s.sess k).state = .dispensing → (s.sess k).tPayout.isSome = true → (s.cash k).order = some o →
     ∃ t, exec (.payoutTimerExpiry k) s = .next t ∧ (t.sess k).payoutOut = false ∧ (t.sess k).tPayout = none ∧
       (t.cash k).order = none ∧ (t.sess k).paidBack = (s.sess k).paidBack ∧
       ∀ n : TubeNo, ((t.cash k).tubes[n]).count = ((s.cash k).tubes[n]).count ∧
         ((∃ e ∈ o.entries, e.1 = n) → ((t.cash k).tubes[n]).state = .suspect) ∧
         ((∀ e ∈ o.entries, e.1 ≠ n) → ((t.cash k).tubes[n]).state = ((s.cash k).tubes[n]).state))

/-- KIOSK-CONTROL BLOCK adds cause SERVER: an OPEN inlet becomes BLOCKED, INLET BLOCK is offered and INLET_BLOCKED raised; a
BLOCKED one stays, without command or event; repeated, it is answered OK and changes nothing. RELEASE removes every cause: a
BLOCKED inlet reopens while the session is IDLE, with INLET OPEN and INLET_RELEASED, else it waits for that. With CASHBOX_FULL
while the cashbox input is FULL, or REJECT_RUN while the session runs, it is refused CAUSE_ACTIVE and changes nothing.

KIOSK-CONTROL MODE: LATCHED changes the mode alone; FOLLOWING also drops CASHBOX_FULL where the filtered input is
OK, and an inlet whose last cause that was reopens while the session is IDLE. Naming the present mode changes nothing. -/
def Obligations.InletControlledByServer : Prop :=
  (∀ (kiosk : Byte) (k : Kiosk) (s : State), s.hears → kiosk.toNat = k.val → (s.link k).state ≠ .unused →
     let v := frameForStation s
     let inlet := (s.cash k).inlet
     let states := fun (blocked : Byte) => [if (s.svc k).out then 1#8 else 0#8, blocked]
     let told := fun (t : State) (i : InletState) =>
       (s.link k).state = .present → (t.link k).heldInlet = some i ∨ ∃ q ∈ (t.link k).queue, q.cmd = .inlet i
     (inlet.server = false → inlet.state = .opened →
       ∃ t, exec (.kioskControlBlock kiosk) s = .next t ∧ (t.cash k).inlet = { inlet with state := .blocked, server := true } ∧
         (t.depot.events[EventKind.inletBlocked.no]).on = true ∧ k ∈ (t.depot.events[EventKind.inletBlocked.no]).kiosks ∧
         t.depot.reply = some (replyFrame 0x50 { status := .ok, data := states 1 } t) ∧ told t .blocked ∧
         (t.cash k).tubes = (s.cash k).tubes ∧ t.sess k = s.sess k) ∧
     (inlet.server = false → inlet.state = .blocked →
       exec (.kioskControlBlock kiosk) s = .next
         ((v.updInlet k (fun i => { i with server := true, reopenWaiting := false })).withReply 0x50 .ok (states 1))) ∧
     (inlet.server = true →
       exec (.kioskControlBlock kiosk) s = .next
         (v.withReply 0x50 .ok (states (if inlet.state = .opened then 0 else 1)))) ∧
     (inlet.cashboxFull = true → (s.link k).cashbox.value = .full →
       exec (.kioskControlRelease kiosk) s = .next (v.withReply 0x50 .causeActive [])) ∧
     (inlet.rejectRun = true → (s.sess k).state ≠ .idle →
       exec (.kioskControlRelease kiosk) s = .next (v.withReply 0x50 .causeActive [])) ∧
     (inlet.noCause = true →
       exec (.kioskControlRelease kiosk) s = .next
         (v.withReply 0x50 .ok (states (if inlet.state = .opened then 0 else 1)))) ∧
     (inlet.noCause = false → inlet.state = .blocked → (inlet.cashboxFull = true → (s.link k).cashbox.value = .ok) →
       ((s.sess k).state = .idle →
         ∃ t, exec (.kioskControlRelease kiosk) s = .next t ∧ (t.cash k).inlet.noCause = true ∧
           (t.cash k).inlet.state = .opened ∧ (t.cash k).inlet.reopenWaiting = false ∧ (t.cash k).inlet.mode = inlet.mode ∧
           (t.depot.events[EventKind.inletReleased.no]).on = true ∧
           k ∈ (t.depot.events[EventKind.inletReleased.no]).kiosks ∧
           t.depot.reply = some (replyFrame 0x50 { status := .ok, data := states 0 } t) ∧ told t .opened ∧
           t.sess k = s.sess k) ∧
       ((s.sess k).state ≠ .idle → inlet.rejectRun = false →
         exec (.kioskControlRelease kiosk) s = .next
           ((v.updInlet k (fun i => { i with cashboxFull := false, server := false, runSession := none,
                                             reopenWaiting := true })).withReply 0x50 .ok (states 1))))) ∧
  (∀ (kiosk : Byte) (k : Kiosk) (s : State), s.hears → kiosk.toNat = k.val → (s.link k).state ≠ .unused →
     let v := frameForStation s
     let data := [if (s.svc k).out then 1#8 else 0#8, if (s.cash k).inlet.state = .opened then 0#8 else 1#8]
     exec (.kioskControlModeLatched kiosk) s =
       .next ((v.updInlet k (fun i => { i with mode := .latched })).withReply 0x50 .ok data) ∧
     ((s.cash k).inlet.mode = .following → exec (.kioskControlModeFollowing kiosk) s = .next (v.withReply 0x50 .ok data)) ∧
     ((s.cash k).inlet.mode = .latched → (s.cash k).inlet.cashboxFull = true → (s.cash k).inlet.rejectRun = false →
       (s.cash k).inlet.server = false → (s.cash k).inlet.state = .blocked → (s.link k).cashbox.value = .ok →
       (s.sess k).state = .idle →
       ∃ t, exec (.kioskControlModeFollowing kiosk) s = .next t ∧
         (t.cash k).inlet.mode = .following ∧ (t.cash k).inlet.state = .opened ∧ (t.cash k).inlet.noCause = true ∧
         (t.depot.events[EventKind.inletReleased.no]).on = true ∧ t.sess k = s.sess k) ∧
     ((s.cash k).inlet.mode = .latched → (s.cash k).inlet.noCause = true →
       exec (.kioskControlModeFollowing kiosk) s =
         .next ((v.updInlet k (fun i => { i with mode := .following })).withReply 0x50 .ok data)))

/-! ### Change (section 6.1) -/

/-- The tubes that take part in a change computation stand in payout order. Its answer: the greedy counts where they pay
the amount, else the counts of the first retry that does, else the greedy counts with the rest as the shortfall; the paid
part is what the list is worth, and the amount is makeable exactly when one of these passes succeeds.

The list's value and the shortfall make the amount, and no entry asks a tube for more coins than the view holds. -/
def Obligations.ChangeIsExact : Prop :=
  (∀ (value : CoinType → Option Nat) (tubes : Vector Tube 6),
    let parts := participants value tubes
    parts.Pairwise (fun p q => q.value < p.value ∨ (p.value = q.value ∧ p.tube.val < q.tube.val)) ∧
    ∀ p : PayEntry, p ∈ parts ↔
      (tubes[p.tube]).state = .payable ∧ 0 < p.count ∧ (tubes[p.tube]).count = p.count ∧
      ∃ t, (tubes[p.tube]).coinType = some t ∧ value t = some p.value) ∧
  (∀ (x : Nat) (parts : List PayEntry) (g : List Nat), IsGreedy x parts g →
    (worth parts g = x →
      makeChange x parts = { list := payoutList parts g, paid := x, shortfall := 0, makeable := true }) ∧
    (worth parts g ≠ x →
      (∀ (j : Nat) (r : List Nat), IsRetry x parts g j r → worth parts r = x →
        (∀ (i : Nat) (q : List Nat), i < j → IsRetry x parts g i q → worth parts q ≠ x) →
        makeChange x parts = { list := payoutList parts r, paid := x, shortfall := 0, makeable := true }) ∧
      ((∀ (j : Nat) (r : List Nat), IsRetry x parts g j r → worth parts r ≠ x) →
        makeChange x parts =
          { list := payoutList parts g, paid := worth parts g, shortfall := x - worth parts g, makeable := false }))) ∧
  ∀ (x : Nat) (parts : List PayEntry),
    let a := makeChange x parts
    (a.list.map (fun e => e.count * e.value)).sum + a.shortfall = x ∧ a.paid + a.shortfall = x ∧
    (a.makeable = true ↔ a.shortfall = 0) ∧
    ∀ e ∈ a.list, 0 < e.count ∧ ∃ p ∈ parts, p.tube = e.tube ∧ p.value = e.value ∧ e.count ≤ p.count

/-- The exact-change indicator of a kiosk is on exactly when some multiple of the step, up to the greatest ACCEPT value
less the step, cannot be made from its tubes; without an ACTIVE bank it is off, and so it is where no entry of the
coin table is an ACCEPT one, whose greatest value is then 0. -/
def Obligations.IndicatorTestsEveryAmount : Prop :=
  ∀ (k : Kiosk) (s : State),
    (s.activeHeader = none → indicatorOf k s = false) ∧
    ∀ h, s.activeHeader = some h → 0 < h.step →
      (indicatorOf k s = true ↔
        ∃ m, 1 ≤ m ∧ m * h.step + h.step ≤ acceptMax s.coins ∧ (liveChange k (m * h.step) s).makeable = false) ∧
      (∀ (i : CoinType) (e : CoinEntry), s.coins[i] = some e → e.use = .accept → e.value ≤ acceptMax s.coins) ∧
      (acceptMax s.coins = 0 ∨
        ∃ (i : CoinType) (e : CoinEntry), s.coins[i] = some e ∧ e.use = .accept ∧ e.value = acceptMax s.coins)

/-! ### The tariff (chapter 4) -/

/-- The due of a line amount by the step g and max sale: rounded to the nearest multiple of g with a half rounding up,
and where rounding up passes max sale, the largest multiple of g that does not exceed it. -/
def Obligations.DueRoundsToStep : Prop :=
  ∀ line g maxSale : Nat, 0 < g →
    (2 * (line % g) < g → roundDue line g maxSale = line - line % g) ∧
    (g ≤ 2 * (line % g) → line - line % g + g ≤ maxSale → roundDue line g maxSale = line - line % g + g) ∧
    (g ≤ 2 * (line % g) → maxSale < line - line % g + g →
      g ∣ roundDue line g maxSale ∧ roundDue line g maxSale ≤ maxSale ∧
      ∀ m, g ∣ m → m ≤ maxSale → m ≤ roundDue line g maxSale) ∧
    (line ≤ maxSale → roundDue line g maxSale ≤ maxSale ∧ g ∣ roundDue line g maxSale)

/-- The band of a plan at a minute is the last whose start is at or below it, and a plan that begins at 0 has one at every
minute; the minute counts from the boundary round the day. The banded fare and the discount round half up.

A sale from the ACTIVE bank of a product that one entry holds: NOT_OFFERED for no entry, a carrier or class not allowed, a
zone count outside 1-8 or a cell NOT_SOLD, QTY_LIMIT for the quantity, OVER_LIMIT above max sale, in that order; else a
price with the due rounded, by the day type of the held service day, the band of the minute and the discount of the
class. -/
def Obligations.BandIsLastStartReached : Prop :=
  (∀ (plan : List Band) (m : Nat) (b : Band), bandOf plan m = some b ↔
    ∃ before after, plan = before ++ b :: after ∧ b.start ≤ m ∧ ∀ c ∈ after, m < c.start) ∧
  (∀ (b : Band) (rest : List Band) (m : Nat), b.start = 0 → (bandOf (b :: rest) m).isSome = true) ∧
  (∀ minute boundary : Nat, minute < 1440 → boundary < 1440 → (bandMinute minute boundary + boundary) % 1440 = minute ∧
    bandMinute minute boundary < 1440) ∧
  (∀ fare factor percent : Nat,
    (2 * ((fare * factor) % 1000) < 1000 → bandedFare fare factor * 1000 = fare * factor - (fare * factor) % 1000) ∧
    (1000 ≤ 2 * ((fare * factor) % 1000) →
      bandedFare fare factor * 1000 = fare * factor - (fare * factor) % 1000 + 1000) ∧
    netFare fare percent = fare - (fare * percent + 50) / 100 ∧ (percent ≤ 100 → netFare fare percent ≤ fare) ∧
    bandedFare fare 1000 = fare ∧ netFare fare 100 = 0 ∧ netFare fare 0 = fare) ∧
  ∀ (s : State) (i : BankId) (code zones quantity : Nat) (cls : RiderClass) (carrier : Carrier),
    let bank := s.tariff.bank i
    let answer := salePrice s code zones cls quantity carrier
    (s.tariff.active = none → answer = .refused .notOffered) ∧
    (s.tariff.active = some i →
      ((∀ (n : Fin 64) (p : Product), bank.products[n] = some p → p.code ≠ code) → answer = .refused .notOffered) ∧
      ∀ (n : Fin 64) (p : Product), bank.products[n] = some p → p.code = code →
        (∀ (m : Fin 64) (q : Product), bank.products[m] = some q → q.code = code → m = n) →
        let allowed := (p.carriers = .both ∨ (p.carriers = .paper ∧ carrier = .paper) ∨ (p.carriers = .card ∧ carrier = .card)) ∧
          (match cls with
            | .adult => p.classes.adult | .child => p.classes.child | .senior => p.classes.senior
            | .concession => p.classes.concession) = true ∧ 1 ≤ zones ∧ zones ≤ 8
        (¬ allowed → answer = .refused .notOffered) ∧
        (allowed → ((bank.fares[p.fareRow]).getD (zones - 1) none = none → answer = .refused .notOffered) ∧
          ∀ base, (bank.fares[p.fareRow]).getD (zones - 1) none = some base →
            (quantity = 0 ∨ 9 < quantity ∨ p.maxQuantity < quantity → answer = .refused .qtyLimit) ∧
            (1 ≤ quantity → quantity ≤ 9 → quantity ≤ p.maxQuantity →
              ∀ (h : Header) (dayType : DayType) (plan : List Band) (band : Band), bank.header = some h →
                ((∃ d : Fin 32, bank.holidays[d] = some s.clock.heldDay) → dayType = .holiday) →
                ((∀ d : Fin 32, bank.holidays[d] ≠ some s.clock.heldDay) →
                  dayType = (if (s.clock.heldDay + 5) % 7 = 5 then .saturday
                             else if (s.clock.heldDay + 5) % 7 = 6 then .sunday else .weekday)) →
                bank.plans[(match dayType with | .weekday => 0 | .saturday => 1 | .sunday => 2 | .holiday => 3 : Fin 4)] = some plan →
                bandOf plan (bandMinute (s.clock.dateTime.hour * 60 + s.clock.dateTime.minute) s.settings.boundary) = some band →
                let factor := (bank.bands[band.cls]).getD p.bandGroup.val 0
                let percent := (bank.classes[(match cls with | .adult => 0 | .child => 1 | .senior => 2 | .concession => 3 : Fin 4)]).getD
                  p.discountGroup.val 0
                let line := netFare (bandedFare base factor) percent * quantity
                (h.maxSale < line → answer = .refused .overLimit) ∧
                (line ≤ h.maxSale → answer = .price
                  { due := roundDue line h.step h.maxSale, bank := i,
                    detail := .sale { code := p.code, name := p.name, kind := p.kind, days := p.days, carriers := p.carriers,
                                      template := p.template } dayType band.cls }))))

/-- A top-up price from the ACTIVE bank: AMOUNT_INVALID for an amount that is neither a denomination nor a multiple of
100 within the span, then OVER_BALANCE above the card maximum, else the amount and the fee. With no ACTIVE bank it is
NOT_OFFERED. -/
def Obligations.TopupPricedByHeader : Prop :=
  ∀ (s : State) (amount balance : Nat),
    (s.tariff.active = none → topupPrice s amount balance = .refused .notOffered) ∧
    ∀ (i : BankId) (h : Header), s.tariff.active = some i → (s.tariff.bank i).header = some h →
      (¬(amount ≠ 0 ∧ amount ∈ h.denominations) → ¬(amount % 100 = 0 ∧ h.topupMin ≤ amount ∧ amount ≤ h.topupMax) →
        topupPrice s amount balance = .refused .amountInvalid) ∧
      ((amount ≠ 0 ∧ amount ∈ h.denominations) ∨ (amount % 100 = 0 ∧ h.topupMin ≤ amount ∧ amount ≤ h.topupMax) →
        (h.cardMax < balance + amount → topupPrice s amount balance = .refused .overBalance) ∧
        (balance + amount ≤ h.cardMax →
          topupPrice s amount balance = .price { due := amount + h.fee, bank := i, detail := .topup amount h.fee }))

/-- The seven banked writes, to a bank that is not ACTIVE while no switch is scheduled: each whose index and unit are in
range replaces its unit alone, the bank becomes EDITING and the request is answered OK.

The refusals of a banked write in their order: BAD_FIELD for a letter other than A and B, ACTIVE_BANK for the ACTIVE
bank, SWITCH_PENDING while a switch is scheduled, BAD_INDEX for an index outside Table 4-1, then BAD_FIELD for a unit out of
the ranges of R56 to R59, and DUPLICATE for a product whose code another entry holds. A refused write changes nothing but what
its frame does to the link.

Three points are the model's: a product out of range whose code another entry holds is BAD_FIELD (log entry 35), a class-set
bit beyond the four classes is out of range (log entry 23), and the slots of a DAYPLAN beyond its count and the index byte of a
HEADER write are not judged (log entry 36). -/
def Obligations.BankedWritesJudgedAndTaken : Prop :=
  (∀ (letter index : Byte) (i : BankId) (s : State), s.hears → bankOf letter = some i →
     (s.tariff.bank i).state ≠ .active → s.tariff.switch = none →
     let v := frameForStation s
     let b := s.tariff.bank i
     (∀ u h, u.denominations.length = 8 → h.IsGivenBy u →
       exec (.tableWriteHeader letter u) s = .next ((v.editBank i { b with header := some h }).withReply 0x42 .ok [])) ∧
     (∀ (u : ProductUnit) (n : Fin 64) (p : Product), index.toNat = n.val → u.name.length = 20 → p.IsGivenBy u →
       (∀ (m : Fin 64) (q : Product), m ≠ n → b.products[m] = some q → q.code ≠ p.code) →
       exec (.tableWriteProduct letter index u) s =
         .next ((v.editBank i { b with products := b.products.set n (some p) }).withReply 0x42 .ok [])) ∧
     (∀ (u : ProductUnit) (n : Fin 64), index.toNat = n.val → u.name.length = 20 → u.valid = 0 →
       exec (.tableWriteProduct letter index u) s =
         .next ((v.editBank i { b with products := b.products.set n none }).withReply 0x42 .ok [])) ∧
     (∀ (cells : List Half) (n : Fin 16), index.toNat = n.val → cells.length = 8 →
       (∀ c ∈ cells, c = 0xFFFF#16 ∨ c.toNat ≤ 60000) →
       exec (.tableWriteFare letter index cells) s =
         .next ((v.editBank i { b with
           fares := b.fares.set n (cells.map (fun c => if c = 0xFFFF#16 then none else some c.toNat)) }).withReply 0x42 .ok [])) ∧
     (∀ (factors : List Half) (n : Fin 4), index.toNat = n.val → factors.length = 4 →
       (∀ f ∈ factors, 500 ≤ f.toNat ∧ f.toNat ≤ 2000) →
       exec (.tableWriteBand letter index factors) s =
         .next ((v.editBank i { b with bands := b.bands.set n (factors.map (·.toNat)) }).withReply 0x42 .ok [])) ∧
     (∀ (u : DayplanUnit) (n : Fin 4) (plan : List Band), index.toNat = n.val → u.slots.length = 6 → PlanIsGivenBy plan u →
       exec (.tableWriteDayplan letter index u) s =
         .next ((v.editBank i { b with plans := b.plans.set n (some plan) }).withReply 0x42 .ok [])) ∧
     (∀ (percents : List Byte) (n : Fin 4), index.toNat = n.val → percents.length = 4 →
       (∀ p ∈ percents, p.toNat ≤ 100) →
       exec (.tableWriteClass letter index percents) s =
         .next ((v.editBank i { b with classes := b.classes.set n (percents.map (·.toNat)) }).withReply 0x42 .ok [])) ∧
     (∀ (u : HolidayUnit) (n : Fin 32), index.toNat = n.val → u.valid = 1 → u.day.toNat ≤ 36524 →
       exec (.tableWriteHoliday letter index u) s =
         .next ((v.editBank i { b with holidays := b.holidays.set n (some u.day.toNat) }).withReply 0x42 .ok [])) ∧
     (∀ (u : HolidayUnit) (n : Fin 32), index.toNat = n.val → u.valid = 0 →
       exec (.tableWriteHoliday letter index u) s =
         .next ((v.editBank i { b with holidays := b.holidays.set n none }).withReply 0x42 .ok [])) ∧
     let refused := fun (c : Instr) (st : Status) => exec c s = .next (v.withReply 0x42 st [])
     (∀ u : HeaderUnit, u.denominations.length = 8 → (∀ h : Header, ¬ h.IsGivenBy u) → refused (.tableWriteHeader letter u) .badField) ∧
     (∀ u : ProductUnit, u.name.length = 20 →
       (64 ≤ index.toNat → refused (.tableWriteProduct letter index u) .badIndex) ∧
       ∀ n : Fin 64, index.toNat = n.val →
         (u.valid ≠ 0 → (∀ p : Product, ¬ p.IsGivenBy u) → refused (.tableWriteProduct letter index u) .badField) ∧
         ∀ (p q : Product) (m : Fin 64), p.IsGivenBy u → m ≠ n → b.products[m] = some q → q.code = p.code →
           refused (.tableWriteProduct letter index u) .duplicate) ∧
     (∀ cells : List Half, cells.length = 8 →
       (16 ≤ index.toNat → refused (.tableWriteFare letter index cells) .badIndex) ∧
       (index.toNat < 16 → (∃ c ∈ cells, c ≠ 0xFFFF#16 ∧ 60000 < c.toNat) →
         refused (.tableWriteFare letter index cells) .badField)) ∧
     (∀ factors : List Half, factors.length = 4 →
       (4 ≤ index.toNat → refused (.tableWriteBand letter index factors) .badIndex) ∧
       (index.toNat < 4 → (∃ f ∈ factors, f.toNat < 500 ∨ 2000 < f.toNat) →
         refused (.tableWriteBand letter index factors) .badField)) ∧
     (∀ u : DayplanUnit, u.slots.length = 6 →
       (4 ≤ index.toNat → refused (.tableWriteDayplan letter index u) .badIndex) ∧
       (index.toNat < 4 → (∀ plan, ¬ PlanIsGivenBy plan u) → refused (.tableWriteDayplan letter index u) .badField)) ∧
     (∀ percents : List Byte, percents.length = 4 →
       (4 ≤ index.toNat → refused (.tableWriteClass letter index percents) .badIndex) ∧
       (index.toNat < 4 → (∃ p ∈ percents, 100 < p.toNat) → refused (.tableWriteClass letter index percents) .badField)) ∧
     (∀ u : HolidayUnit,
       (32 ≤ index.toNat → refused (.tableWriteHoliday letter index u) .badIndex) ∧
       (index.toNat < 32 → u.valid ≠ 0 → (u.valid = 1 → 36524 < u.day.toNat) →
         refused (.tableWriteHoliday letter index u) .badField))) ∧
  (∀ (c : Instr) (letter index : Byte) (s : State), s.hears →
     ((∃ u : HeaderUnit, u.denominations.length = 8 ∧ c = .tableWriteHeader letter u) ∨
      (∃ u : ProductUnit, u.name.length = 20 ∧ c = .tableWriteProduct letter index u) ∨
      (∃ cells : List Half, cells.length = 8 ∧ c = .tableWriteFare letter index cells) ∨
      (∃ factors : List Half, factors.length = 4 ∧ c = .tableWriteBand letter index factors) ∨
      (∃ u : DayplanUnit, u.slots.length = 6 ∧ c = .tableWriteDayplan letter index u) ∨
      (∃ percents : List Byte, percents.length = 4 ∧ c = .tableWriteClass letter index percents) ∨
      (∃ u : HolidayUnit, c = .tableWriteHoliday letter index u)) →
     let v := frameForStation s
     (letter ≠ 0x41#8 → letter ≠ 0x42#8 → exec c s = .next (v.withReply 0x42 .badField [])) ∧
     ∀ i : BankId, letter = i.letter →
       ((s.tariff.bank i).state = .active → exec c s = .next (v.withReply 0x42 .activeBank [])) ∧
       ((s.tariff.bank i).state ≠ .active → s.tariff.switch.isSome = true →
         exec c s = .next (v.withReply 0x42 .switchPending [])))

/-- The TABLE-READs and STATUS-READ: each answers OK with its unit as it stands and changes nothing but what its frame
does to the link. That the index byte of a HEADER read is not judged is the model's choice (log entry 36). -/
def Obligations.ReadsAnswerUnits : Prop :=
  ∀ (index place letter : Byte) (s : State), s.hears →
    let v := frameForStation s
    (∀ l : LoopId, index = (match l with | .a => 0#8 | .b => 1#8) →
      exec (.tableReadLoop index) s =
        .next (v.withReply 0x43 .ok (byte1 (s.loop l).rate.code ++ byte1 (s.loop l).edge.code))) ∧
    (∀ k : Kiosk, index.toNat = k.val →
      exec (.tableReadKiosk index) s =
        .next (v.withReply 0x43 .ok
          (byte1 (if (s.link k).state = .unused then 0 else 1) ++ byte1 (s.link k).state.code)) ∧
      exec (.tableReadCalib index) s =
        .next (v.withReply 0x43 .ok ((s.coin k).calib1.bytes ++ (s.coin k).calib2.bytes ++ (s.coin k).calib3.bytes)) ∧
      exec (.tableReadTube index) s =
        .next (v.withReply 0x43 .ok
          (((s.cash k).tubes[(0 : TubeNo)]).bytes ++ ((s.cash k).tubes[(1 : TubeNo)]).bytes ++ ((s.cash k).tubes[(2 : TubeNo)]).bytes ++
           ((s.cash k).tubes[(3 : TubeNo)]).bytes ++ ((s.cash k).tubes[(4 : TubeNo)]).bytes ++ ((s.cash k).tubes[(5 : TubeNo)]).bytes))) ∧
    (∀ i : CoinType, index.toNat = i.val →
      exec (.tableReadCoin index) s = .next (v.withReply 0x43 .ok (CoinEntry.bytes s.coins[i]))) ∧
    exec .tableReadSettings s = .next (v.withReply 0x43 .ok s.settings.bytes) ∧
    (∀ (t : Fin 16) (p : Fin 24), index.toNat = t.val → place.toNat = p.val →
      exec (.tableReadTemplate index place) s = .next (v.withReply 0x43 .ok (LineRecord.bytes (s.templates[t])[p]))) ∧
    (∀ (i : BankId) (t : BankedTable) (unit : List Byte), letter = i.letter →
      bankedUnit (s.tariff.bank i) t index.toNat = some unit →
      exec (.tableReadBanked t letter index) s = .next (v.withReply 0x43 .ok unit)) ∧
    exec .statusRead s = .next (v.withReply 0x40 .ok (statusData v))

/-- A BANK-SWITCH whose minute has come makes the switch of a bank that passes validation: that bank ACTIVE, the former
one VALID, nothing scheduled, BANK_SWITCHED pending. One whose minute is still to come schedules it, the bank VALID.
A bank that fails is answered BANK_INVALID with the table and index of its first failing check, in the order of Table 4-5,
and is EDITING.
The refusals before it, in their order: BAD_FIELD, CLOCK_UNSET, ACTIVE_BANK, SWITCH_PENDING; they change nothing.

SWITCH-CANCEL makes the scheduled switch none and leaves both banks as they are; with none scheduled it is refused
NOT_FOUND. -/
def Obligations.BankSwitchAndCancel : Prop :=
  (∀ (letter : Byte) (minute : MinuteField) (i : BankId) (d : DateTime) (s : State),
     s.hears → letter = i.letter → minuteOf minute = some d → s.clock.state = .valid →
     (s.tariff.bank i).state ≠ .active → s.tariff.switch = none →
     let v := frameForStation s
     let b := s.tariff.bank i
     (validateBank s b = none → d.minutes ≤ s.clock.dateTime.minutes →
       ∃ t, exec (.bankSwitch letter minute) s = .next t ∧ (t.tariff.bank i).state = .active ∧ t.tariff.switch = none ∧
         (∀ j, j ≠ i → (t.tariff.bank j).state =
           (if (s.tariff.bank j).state = .active then .valid else (s.tariff.bank j).state)) ∧
         (∀ j, (t.tariff.bank j).header = (s.tariff.bank j).header ∧ (t.tariff.bank j).products = (s.tariff.bank j).products ∧
           (t.tariff.bank j).fares = (s.tariff.bank j).fares) ∧
         (t.depot.events[EventKind.bankSwitched.no]).on = true ∧ t.clock = s.clock ∧ t.journal = s.journal ∧
         t.depot.reply = some (replyFrame 0x44 { status := .ok, data := [] } t) ∧
         ∀ k, t.sess k = s.sess k ∧ t.cash k = s.cash k) ∧
     (validateBank s b = none → s.clock.dateTime.minutes < d.minutes →
       exec (.bankSwitch letter minute) s = .next
         (({ v with tariff := { (s.tariff.setBank i { b with state := .valid }) with switch := some { bank := i, minute := d } } } : State).withReply
           0x44 .ok [])) ∧
     (∀ table place, validateBank s b = some (table, place) →
       exec (.bankSwitch letter minute) s = .next
         ((v.editBank i b).withReply 0x44 .bankInvalid [BitVec.ofNat 8 table, BitVec.ofNat 8 place]))) ∧
  (∀ (letter : Byte) (minute : MinuteField) (s : State), s.hears →
     let v := frameForStation s
     (bankOf letter = none ∨ minuteOf minute = none →
       exec (.bankSwitch letter minute) s = .next (v.withReply 0x44 .badField [])) ∧
     ∀ (i : BankId) (d : DateTime), letter = i.letter → minuteOf minute = some d →
       (s.clock.state = .invalid → exec (.bankSwitch letter minute) s = .next (v.withReply 0x44 .clockUnset [])) ∧
       (s.clock.state = .valid → (s.tariff.bank i).state = .active →
         exec (.bankSwitch letter minute) s = .next (v.withReply 0x44 .activeBank [])) ∧
       (s.clock.state = .valid → (s.tariff.bank i).state ≠ .active → s.tariff.switch.isSome = true →
         exec (.bankSwitch letter minute) s = .next (v.withReply 0x44 .switchPending []))) ∧
  (∀ (s : State) (b : Bank),
     ((∀ h, b.header = some h → ¬ h.Sound) → validateBank s b = some (7, 0)) ∧
     ∀ h, b.header = some h → h.Sound →
       (∀ n, ¬ b.ProductSound s n → (∀ m, m < n → b.ProductSound s m) → validateBank s b = some (8, n.val)) ∧
       ((∀ n, b.ProductSound s n) →
         (∀ d, ¬ b.PlanSound d → (∀ e, e < d → b.PlanSound e) → validateBank s b = some (11, d.val)) ∧
         ((∀ d, b.PlanSound d) →
           (∀ n, ¬ b.HolidaySound n → (∀ m, m < n → b.HolidaySound m) → validateBank s b = some (13, n.val)) ∧
           ((∀ n, b.HolidaySound n) → validateBank s b = none)))) ∧
  (∀ s : State, s.hears →
     let v := frameForStation s
     (s.tariff.switch.isSome = true →
       exec .switchCancel s = .next (({ v with tariff := { s.tariff with switch := none } } : State).withReply 0x45 .ok [])) ∧
     (s.tariff.switch = none → exec .switchCancel s = .next (v.withReply 0x45 .notFound [])))

/-- At most one bank is ACTIVE after every step from a state in which at most one is. -/
def Obligations.OneActiveBankKeptByEveryStep : Prop :=
  ∀ s t : State, s.tariff.oneActive → step s = .next t → t.tariff.oneActive

/-- The invariants hold at reset: at most one bank ACTIVE, the stop-list in order, every queue within its bounds, each loop
polling kiosks of its own. -/
def Obligations.InvariantsHoldAtReset : Prop :=
  State.reset.tariff.oneActive ∧ State.reset.cards.stopWf ∧ State.reset.queuesWf ∧ State.reset.pollsOwn

/-! ### Sessions (chapter 5) -/

/-- A starting frame in IDLE, a select record or a card image: outside SELLING the display shows CLOSED, at a kiosk out
of service OUT_OF_SERVICE, and no session starts; else the session is SELECTING with the next serial, start values, the
frame applied to it and the price it asks for shown, and the inactivity timer running. -/
def Obligations.StartingFrameOpensSession : Prop :=
  ∀ (c : Instr) (l : LoopId) (a : Bool) (k : Kiosk) (sel : Selection) (card : Option CardImage) (s : State),
    s.polls l k →
    ((∃ i : SelectItem, i.wellFormed = true ∧ c = .keySelect l a i ∧ sel = Selection.start.apply i ∧ card = none) ∨
     (∃ i : CardImage, i.wellFormed = true ∧ c = .cardImage l a i ∧ sel = Selection.start ∧ card = some i)) →
    let u := s.acked l a
    (u.sess k).state = .idle →
    (u.depot.mode ≠ .selling → exec c s = .next (nextPoll l (showMessage k .closed u))) ∧
    (u.depot.mode = .selling → (u.svc k).out = true → exec c s = .next (nextPoll l (showMessage k .outOfService u))) ∧
    (u.depot.mode = .selling → (u.svc k).out = false →
      ∃ w, exec c s = .next (nextPoll l w) ∧ (w.sess k).state = .selecting ∧
        (w.sess k).serial = (if (u.sess k).serial = 65535 then 0 else (u.sess k).serial + 1) ∧
        (w.sess k).selection = sel ∧ (w.sess k).card = card ∧ (w.sess k).credit = 0 ∧ (w.sess k).rejectRun = 0 ∧
        (w.sess k).auth = .none ∧ (w.sess k).write = .none ∧ (w.sess k).tInactivity = some u.settings.inactivity ∧
        RepricedFrom k u w ∧ w.journal = u.journal ∧ ∀ j, j ≠ k → w.sess j = u.sess j)

/-- A select record, a card image or a removal report in SELECTING changes the named item, the kind it derives or the
card, restarts the inactivity timer, and leaves serial, credit and journal. The session is then repriced: the shown price, the
message and the offered amounts are those of the selection and the card as they now stand, and SHOW is offered. -/
def Obligations.SelectingFramesApply : Prop :=
  ∀ (l : LoopId) (a : Bool) (k : Kiosk) (s : State), s.polls l k →
    let u := s.acked l a
    (u.sess k).state = .selecting →
    (∀ i : SelectItem, i.wellFormed = true →
      ∃ w, exec (.keySelect l a i) s = .next (nextPoll l w) ∧ (w.sess k).state = .selecting ∧
        (w.sess k).selection = (match i with
          | .product n => { (u.sess k).selection with product := some n, topup := none }
          | .topup n => { (u.sess k).selection with topup := some n, product := none }
          | .zones n => { (u.sess k).selection with zones := n }
          | .riderClass c => { (u.sess k).selection with cls := c }
          | .quantity n => { (u.sess k).selection with quantity := n }
          | .carrier c => { (u.sess k).selection with carrier := c }) ∧
        (w.sess k).kind = (match (w.sess k).selection.topup, (w.sess k).selection.carrier with
          | some _, _ => .topup | none, .card => .cardSale | none, .paper => .paperSale) ∧
        (w.sess k).card = (u.sess k).card ∧ (w.sess k).serial = (u.sess k).serial ∧ (w.sess k).credit = (u.sess k).credit ∧
        (w.sess k).tInactivity = some u.settings.inactivity ∧ RepricedFrom k u w ∧ w.journal = u.journal) ∧
    (∀ c : CardImage, c.wellFormed = true →
      ∃ w, exec (.cardImage l a c) s = .next (nextPoll l w) ∧ (w.sess k).state = .selecting ∧ (w.sess k).card = some c ∧
        (w.sess k).selection = (u.sess k).selection ∧ (w.sess k).kind = (u.sess k).kind ∧
        (w.sess k).serial = (u.sess k).serial ∧ (w.sess k).credit = (u.sess k).credit ∧
        (w.sess k).tInactivity = some u.settings.inactivity ∧ RepricedFrom k u w ∧ w.journal = u.journal) ∧
    (∃ w, exec (.cardRemoval l a) s = .next (nextPoll l w) ∧ (w.sess k).state = .selecting ∧ (w.sess k).card = none ∧
      (w.sess k).selection = (u.sess k).selection ∧ (w.sess k).kind = (u.sess k).kind ∧
      (w.sess k).serial = (u.sess k).serial ∧ (w.sess k).credit = (u.sess k).credit ∧
      (w.sess k).tInactivity = some u.settings.inactivity ∧ RepricedFrom k u w ∧ w.journal = u.journal)

/-- A receipt key sets receipt wanted in every state from SELECTING to CANCELLING and is ignored in IDLE; the display
does not change. The value standing at the close decides an unforced receipt: not wanted, NOT_WANTED; wanted with fewer
than two jobs held, its job joins the tail and it is QUEUED, or NOT_PRINTED where its walk gives no line; wanted with two
held, SKIPPED. That it is SKIPPED with three held too is the model's choice (log entry 37). -/
def Obligations.ReceiptKeysSetReceiptWanted : Prop :=
  (∀ (l : LoopId) (a wanted : Bool) (k : Kiosk) (s : State), s.polls l k →
    let u := s.acked l a
    let c := if wanted then Instr.keyReceiptYes l a else Instr.keyReceiptNo l a
    ((u.sess k).state = .idle → exec c s = .next (nextPoll l u)) ∧
    ((u.sess k).state ≠ .idle →
      ∃ w, exec c s = .next (nextPoll l w) ∧ (w.sess k).receiptWanted = wanted ∧ w.disp k = u.disp k ∧
        (w.sess k).state = (u.sess k).state ∧ (w.sess k).selection = (u.sess k).selection ∧
        (w.sess k).credit = (u.sess k).credit ∧ w.cash k = u.cash k ∧ w.journal = u.journal)) ∧
  ∀ (k : Kiosk) (o : SessOutcome) (s : State), receiptForced (s.sess k) o = false → o ≠ .stranded →
    ((s.sess k).receiptWanted = false → requestReceipt k o s = (s, .notWanted)) ∧
    ((s.sess k).receiptWanted = true → 2 ≤ (s.jobs k).length → requestReceipt k o s = (s, .skipped)) ∧
    ((s.sess k).receiptWanted = true → (s.jobs k).length < 2 →
      let p := printedOf s { kiosk := k, sess := s.sess k, outcome := o, time := s.clock.dateTime, day := s.clock.heldDay }
      (p.lines = [] → requestReceipt k o s = (s, .notPrinted)) ∧
      (p.lines ≠ [] → requestReceipt k o s = (s.setJobs k (s.jobs k ++
        [{ serial := (s.sess k).serial, lines := p.lines, taken := 0, inFlight := 0, nestLimit := p.nestLimit,
           truncated := p.truncated, resumed := false,
           state := if s.jobs k ≠ [] then .queued else if (s.link k).paper.value = .out then .suspended else .streaming }]),
        .queued)))

/-- CONFIRM, judged in order: with no shown price only the inactivity timer starts again; INSERT_CARD for a card kind with
no card; a refusal, or PRICE_CHANGED with the new due; JOURNAL_FULL at occupancy 256; CARD_BLOCKED, PASS_PRESENT and
NO_PRINTER, which keep the fixed price and give the reservation back. Each leaves the session in SELECTING.

A CONFIRM that passes reserves a place: a sale with a due is PAYING; a card sale of due 0 is WRITING; a paper sale of due
0 closes at once with its record. A top-up with the link ONLINE is AUTHORISING with its request at the list's tail and its
timer running; otherwise the offline rule decides at once: PAYING, or SELECTING with the reason shown. -/
def Obligations.ConfirmReservesAndPays : Prop :=
  ∀ (l : LoopId) (a : Bool) (k : Kiosk) (s : State), s.polls l k →
    let u := s.acked l a
    let x := u.sess k
    let leads := fun (q : State → Prop) => ∃ w, exec (.keyConfirm l a) s = .next (nextPoll l w) ∧ w.cash k = u.cash k ∧ q w
    let refused := fun (m : Message) (q : State → Prop) => leads (fun w => (w.sess k).state = .selecting ∧
      (w.disp k).message = m ∧ w.journal.records = u.journal.records ∧
      w.journal.reservations = u.journal.reservations ∧ q w)
    let reserved := fun (w : State) => w.journal.records = u.journal.records ∧
      w.journal.reservations = u.journal.reservations + 1
    x.state = .selecting →
    (x.shown = none → exec (.keyConfirm l a) s = .next (nextPoll l (startInactivity k u))) ∧
    (∀ shown, x.shown = some shown →
      (x.kind ≠ .paperSale → x.card = none → refused .insertCard (fun w => (w.sess k).shown = some shown)) ∧
      (x.kind = .paperSale ∨ x.card.isSome = true →
        (∀ m, priceRequest x u = some (.refused m) → refused m (fun w => (w.sess k).shown = none)) ∧
        ∀ p, priceRequest x u = some (.price p) →
          (p.due ≠ shown → refused .priceChanged (fun w => (w.sess k).shown = some p.due)) ∧
          (p.due = shown →
            (256 ≤ u.journal.occupancy → refused .journalFull (fun w => (w.sess k).fixed = some p)) ∧
            (u.journal.occupancy < 256 →
              (x.kind = .paperSale →
                ((u.link k).paper.value = .out ∨ 2 ≤ (u.jobs k).length →
                  refused .noPrinter (fun w => (w.sess k).fixed = some p)) ∧
                ((u.link k).paper.value ≠ .out → (u.jobs k).length < 2 →
                  (0 < p.due → leads (fun w => reserved w ∧ (w.sess k).state = .paying ∧ (w.sess k).fixed = some p ∧
                    (w.sess k).credit = x.credit ∧ (w.sess k).tInactivity = some u.settings.inactivity ∧
                    (w.disp k).message = .insertCoins)) ∧
                  (p.due = 0 → x.credit = 0 → x.payoutOut = false → x.returnOut = false → (u.cash k).escrow = [] →
                    (u.cash k).inlet.reopenWaiting = false → (u.cash k).inlet.rejectRun = false →
                    leads (fun w => (w.sess k).state = .idle ∧ (w.sess k).outcome = some .completed ∧
                      w.journal.records.length = u.journal.records.length + 1 ∧
                      w.journal.reservations = u.journal.reservations ∧ (w.disp k).message = .thankYou)))) ∧
              (∀ c, x.kind ≠ .paperSale → x.card = some c →
                let isPass := ∃ snap dayType cls, p.detail = .sale snap dayType cls ∧ snap.kind = .pass
                let current := ∃ slot, c.pass = some slot ∧ u.clock.heldDay ≤ slot.validUntil
                (c.number ∈ u.cards.stopList → refused .cardBlocked (fun w => (w.sess k).fixed = some p)) ∧
                (c.number ∉ u.cards.stopList → x.kind = .cardSale → isPass → current →
                  refused .passPresent (fun w => (w.sess k).fixed = some p)) ∧
                (c.number ∉ u.cards.stopList → x.kind = .cardSale → ¬(isPass ∧ current) →
                  (0 < p.due → leads (fun w => reserved w ∧ (w.sess k).state = .paying ∧ (w.sess k).fixed = some p ∧
                    (w.sess k).tInactivity = some u.settings.inactivity ∧ (w.disp k).message = .insertCoins)) ∧
                  (p.due = 0 → countKind (u.link k).queue .cardWrite = 0 →
                    leads (fun w => reserved w ∧ (w.sess k).state = .writing ∧ (w.sess k).fixed = some p ∧
                      (w.sess k).write = .issued ∧ (w.sess k).tCardWrite = some 8 ∧ (w.disp k).message = .writingCard))) ∧
                (∀ amount fee, c.number ∉ u.cards.stopList → x.kind = .topup → p.detail = .topup amount fee →
                  let attempt := match (u.kcard k).lastRequest with
                    | some r => if r.serial ≠ x.serial then 1 else if r.attempt = 255 then 1 else r.attempt + 1
                    | none => 1
                  ((∃ rate, u.depot.link = .online rate) → leads (fun w => reserved w ∧ (w.sess k).state = .authorising ∧
                    (w.sess k).fixed = some p ∧ (w.sess k).auth = .pending ∧ (w.sess k).tInactivity = none ∧
                    (w.sess k).tAuthorisation = some u.settings.authorisation ∧ (w.disp k).message = .authorising ∧
                    w.cards.authList = u.cards.authList ++
                      [{ kiosk := k, serial := x.serial, attempt := attempt, card := c.number, cls := c.cls,
                         balance := c.balance, amount := amount, fetched := false }] ∧
                    (w.kcard k).lastRequest = some { serial := x.serial, attempt := attempt, conclusion := .listed })) ∧
                  ((∀ rate, u.depot.link ≠ .online rate) →
                    (offlineDenial u c.number amount = none → leads (fun w => reserved w ∧ (w.sess k).state = .paying ∧
                      (w.sess k).fixed = some p ∧ (w.sess k).auth = .grantedOffline ∧ (w.sess k).offlineHeld = amount ∧
                      (w.kcard k).lastRequest = some { serial := x.serial, attempt := attempt, conclusion := .atOnce })) ∧
                    (∀ m, offlineDenial u c.number amount = some m → refused m (fun w => (w.sess k).fixed = some p ∧
                      (w.sess k).auth = .denied ∧
                      (w.kcard k).lastRequest = some { serial := x.serial, attempt := attempt, conclusion := .atOnce })))))))))

/-- A CANCEL in SELECTING, and the inactivity timer running out there, end the session without a record or a receipt:
IDLE, timers stopped, message CANCELLED. A CANCEL or a card removal in AUTHORISING does so too, withdraws the listed
request and releases the reservation.

A cancel of PAYING, by CANCEL, by a card removal of a card kind or by the inactivity timer, records its cause. With the
coin in flight past its gate the session waits in CANCELLING with message CANCELLED, whatever the cause; with no coin in
flight, or one whose gate is not taken, the refund begins at once, the change due being the credit less the escrow value and
the whole escrow asked back, and such a coin is released: its GATE becomes RETURN with reason CANCELLED. -/
def Obligations.CancelEndsOrRefunds : Prop :=
  (∀ (l : LoopId) (a : Bool) (k : Kiosk) (s : State),
     ((s.sess k).state = .selecting → (s.sess k).tInactivity.isSome = true →
       ∃ t, exec (.inactivityTimerExpiry k) s = .next t ∧ (t.sess k).state = .idle ∧ (t.sess k).tInactivity = none ∧
         (t.disp k).message = .cancelled ∧ t.journal = s.journal ∧ t.jobs k = s.jobs k ∧ (t.cash k).escrow = (s.cash k).escrow) ∧
     (s.polls l k →
       let u := s.acked l a
       ((u.sess k).state = .selecting →
         ∃ w, exec (.keyCancel l a) s = .next (nextPoll l w) ∧ (w.sess k).state = .idle ∧ (w.sess k).tInactivity = none ∧
           (w.disp k).message = .cancelled ∧ w.journal = u.journal ∧ w.jobs k = u.jobs k) ∧
       ((u.sess k).state = .authorising → ∀ c : Instr, c = .keyCancel l a ∨ c = .cardRemoval l a →
         ∃ w, exec c s = .next (nextPoll l w) ∧ (w.sess k).state = .idle ∧ (w.sess k).tAuthorisation = none ∧
           (w.disp k).message = .cancelled ∧ w.journal.records = u.journal.records ∧
           w.journal.reservations = u.journal.reservations - 1 ∧ w.jobs k = u.jobs k ∧ w.listed k = false))) ∧
  (∀ (k : Kiosk) (cause : Message) (s u : State) (ends : State → Prop),
     (u.sess k).state = .paying → (u.link k).state = .present →
     ((∃ l a, s.polls l k ∧ u = s.acked l a ∧ cause = .cancelled ∧
         ∃ c, (c = .keyCancel l a ∨ (c = .cardRemoval l a ∧ (u.sess k).kind ≠ .paperSale)) ∧
           ends = fun w => exec c s = .next (nextPoll l w)) ∨
       (u = s ∧ (s.sess k).tInactivity.isSome = true ∧ cause = .timedOut ∧
         ends = fun w => exec (.inactivityTimerExpiry k) s = .next w)) →
     ((∃ f, (u.coin k).flight = some f ∧ f.gateTaken = true) →
       ∃ w, ends w ∧ (w.sess k).state = .cancelling ∧ (w.sess k).tInactivity = none ∧
         (w.sess k).cancelCause = some cause ∧ (w.disp k).message = .cancelled ∧
         (w.sess k).credit = (u.sess k).credit ∧ w.coin k = u.coin k ∧ w.cash k = u.cash k ∧ w.journal = u.journal) ∧
     ((∀ f, (u.coin k).flight = some f → f.gateTaken = false) →
       ∃ w, ends w ∧ ((w.sess k).state = .dispensing ∨ (w.sess k).state = .idle) ∧ (w.sess k).purpose = .refund ∧
         (w.sess k).cancelCause = some cause ∧ (w.sess k).credit = (u.sess k).credit ∧
         (w.sess k).changeDue = (u.sess k).credit - (u.sess k).escrowValue ∧
         (w.coin k).flight = (u.coin k).flight.map (fun f => { f with route := .ret, reason := .cancelled, released := true }) ∧
         (∀ f, (u.coin k).flight = some f →
           (f.route ≠ .ret → ∀ q ∈ (w.link k).queue, q.cmd.kind = .gate → q.cmd = .gate .ret .cancelled) ∧
           (f.route = .ret → ∀ q : QCmd, q.cmd.kind = .gate → (q ∈ (w.link k).queue ↔ q ∈ (u.link k).queue))) ∧
         ((u.cash k).escrow ≠ [] → (u.cash k).held = [] → countKind (u.link k).queue .escrow = 0 →
           (w.sess k).state = .dispensing ∧ (w.disp k).message = .refund ∧ (w.sess k).returnOut = true ∧
           (w.cash k).escrow = [] ∧
           (w.cash k).escrowCmd = some { action := .ret, entries := (u.cash k).escrow, dests := [], origin := .session } ∧
           w.journal = u.journal)))

/-- A CARDRESULT of the issued write concludes it: DONE and UNKNOWN go on to the change with that write state, FAILED to
the refund; one for another card or counter changes nothing. The card write timer running out in WRITING counts as
UNKNOWN. -/
def Obligations.CardResultConcludesWrite : Prop :=
  ∀ (l : LoopId) (a : Bool) (k : Kiosk) (r : CardOutcome) (card counter : Nat) (w : CardWrite) (s : State),
    (s.polls l k →
      let u := s.acked l a
      (u.kcard k).issued = some w →
      (w.card ≠ card ∨ w.counter ≠ counter → exec (.cardResult l a r card counter) s = .next (nextPoll l u)) ∧
      (w.card = card → w.counter = counter → (u.sess k).state = .writing → (u.sess k).write = .issued →
        ∃ t, exec (.cardResult l a r card counter) s = .next (nextPoll l t) ∧
          (t.sess k).write = (match r with | .done => .done | .failed => .failed | .unknown => .unknown) ∧
          (t.sess k).purpose = (match r with | .failed => .refund | _ => .change) ∧ (t.sess k).tCardWrite = none ∧
          ((t.sess k).state = .dispensing ∨ (t.sess k).state = .idle) ∧ (t.sess k).credit = (u.sess k).credit)) ∧
    ((s.sess k).state = .writing → (s.sess k).tCardWrite.isSome = true →
      ∃ t, exec (.cardWriteTimerExpiry k) s = .next t ∧ (t.sess k).write = .unknown ∧ (t.sess k).purpose = .change ∧
        (t.sess k).tCardWrite = none ∧ (t.sess k).credit = (s.sess k).credit)

/-- The PAYREPORT that ends the last outstanding item of a DISPENSING session, the payout timer, and the take of its
ESCROW RETURN close the session: its outcome, final figures and record at the journal's tail in place of its reservation,
the daily counters, the drop of the escrow of a completed sale, and IDLE with its message.

The figures of a session balance at every end of it: credit is retained, paid back, voucher and stranded together, at a
close of any outcome and at a stranding, where no more was paid back than its credit less what is retained. What is
retained is the due where the sale is completed or its goods count as delivered, else nothing. -/
def Obligations.SettlementFiguresBalance : Prop :=
  (∀ (l : LoopId) (a : Bool) (k : Kiosk) (counts : Vector Nat 6) (s : State),
    (s.polls l k → (∀ n : TubeNo, counts[n] ≤ 250) →
      let u := s.acked l a
      (u.sess k).state = .dispensing → (u.sess k).payoutOut = true → (u.sess k).payTaken = true →
      (u.sess k).returnOut = false →
      ∃ w, exec (.payReport l a counts) s = .next (nextPoll l w) ∧
        ClosedFrom k ((u.sess k).paidBack + ((u.sess k).payout.map (fun e => min counts[e.tube] e.count * e.value)).sum) u w) ∧
    ((s.sess k).state = .dispensing → (s.sess k).tPayout.isSome = true → (s.sess k).returnOut = false →
      ∃ t, exec (.payoutTimerExpiry k) s = .next t ∧ ClosedFrom k (s.sess k).paidBack s t) ∧
    (∀ (x : Exchange) (n : Nat) (rest : List QCmd) (e : EscrowCmd),
      (s.loop l).exchange = some x → x.kiosk = k → x.poll = .command → (s.link k).state = .present →
      (s.link k).queue = { cmd := .escrow .ret n [], sent := some a } :: rest → (s.cash k).escrowCmd = some e →
      e.action = .ret → e.origin = .session → (s.cash k).held = [] →
      (s.sess k).state = .dispensing → (s.sess k).payoutOut = false →
      ∃ w, exec (.nil l a) s = .next (nextPoll l w) ∧
        ClosedFrom k ((s.sess k).paidBack + (e.entries.map (·.value)).sum) s w)) ∧
  ∀ x : Session,
    let due := (x.fixed.map (·.due)).getD 0
    (∀ o : SessOutcome, x.paidBack + (if o = .completed then due else 0) ≤ x.credit →
      let y := x.closed o
      y.retained = (if o = .completed then due else 0) ∧ y.stranded = 0 ∧ y.outcome = some o ∧
      y.retained + y.paidBack + y.voucher + y.stranded = y.credit ∧ y.credit = x.credit ∧ y.paidBack = x.paidBack) ∧
    (let delivered := (x.state = .writing ∧ (x.write = .issued ∨ x.write = .unknown)) ∨
        (x.state = .dispensing ∧ x.purpose = .change)
     let y := x.strandedFigures
     y.voucher = 0 ∧ y.outcome = some .stranded ∧ y.credit = x.credit ∧ y.paidBack = x.paidBack ∧
     (delivered → x.paidBack + due ≤ x.credit → y.retained = due ∧ y.retained + y.paidBack + y.stranded = y.credit) ∧
     (¬ delivered → x.paidBack ≤ x.credit → y.retained = 0 ∧ y.paidBack + y.stranded = y.credit))

/-! ### Cards (chapter 7) -/

/-- The stop-list requests: ADD inserts a new number, REMOVE takes one out, CLEAR empties the list; 0 is BAD_FIELD, a
number already held ALREADY, a full list FULL, a number not held NOT_FOUND, and a refusal changes nothing.

A number that is added then meets the sessions whose card bears it: one in AUTHORISING goes back to SELECTING with
CARD_BLOCKED, its request leaving the list with conclusion STOPLIST; one in PAYING of a card kind is cancelled with that
cause, into CANCELLING where its coin is past the gate, else into the refund; every other session stays as it is. That the cause is recorded, and that CANCELLING
shows CANCELLED and the refund CARD_BLOCKED, is the model's reading (log entry 8). -/
def Obligations.StopListRequests : Prop :=
  ∀ (number : Word) (s : State), s.hears →
    let v := frameForStation s
    let n := number.toNat
    (n = 0 → exec (.stoplistAdd number) s = .next (v.withReply 0x46 .badField []) ∧
      exec (.stoplistRemove number) s = .next (v.withReply 0x47 .badField [])) ∧
    (n ≠ 0 → n ∈ s.cards.stopList → exec (.stoplistAdd number) s = .next (v.withReply 0x46 .already []) ∧
      exec (.stoplistRemove number) s = .next
        (({ v with cards := { v.cards with stopList := s.cards.stopList.filter (fun m => decide (m ≠ n)) } } : State).withReply 0x47 .ok [])) ∧
    (n ≠ 0 → n ∉ s.cards.stopList → exec (.stoplistRemove number) s = .next (v.withReply 0x47 .notFound [])) ∧
    (n ≠ 0 → n ∉ s.cards.stopList → 4096 ≤ s.cards.stopList.length →
      exec (.stoplistAdd number) s = .next (v.withReply 0x46 .full [])) ∧
    (n ≠ 0 → n ∉ s.cards.stopList → s.cards.stopList.length < 4096 →
      ∃ t, exec (.stoplistAdd number) s = .next t ∧ (∀ m, m ∈ t.cards.stopList ↔ m = n ∨ m ∈ s.cards.stopList) ∧
        t.cards.stopList.length = s.cards.stopList.length + 1 ∧
        t.depot.reply = some (replyFrame 0x46 { status := .ok, data := [] } t) ∧
        ∀ k,
          ((s.sess k).card.map (·.number) ≠ some n → t.sess k = s.sess k) ∧
          ((s.sess k).card.map (·.number) = some n →
            ((s.sess k).state = .authorising →
              (t.sess k).state = .selecting ∧ (t.sess k).auth = .denied ∧ (t.sess k).fixed = (s.sess k).fixed ∧
              (t.sess k).tAuthorisation = none ∧ (t.sess k).tInactivity = some s.settings.inactivity ∧
              (t.disp k).message = .cardBlocked ∧ t.listed k = false ∧
              (t.kcard k).lastRequest = (s.kcard k).lastRequest.map (fun r => { r with conclusion := .stoplist })) ∧
            ((s.sess k).state = .paying → (s.sess k).kind ≠ .paperSale →
              (t.sess k).cancelCause = some .cardBlocked ∧ (t.sess k).credit = (s.sess k).credit ∧
              ((∃ f, (s.coin k).flight = some f ∧ f.gateTaken = true) →
                (t.sess k).state = .cancelling ∧ (t.disp k).message = .cancelled) ∧
              ((∀ f, (s.coin k).flight = some f → f.gateTaken = false) →
                (t.sess k).purpose = .refund ∧ ((t.sess k).state = .dispensing ∨ (t.sess k).state = .idle) ∧
                ((t.sess k).state = .dispensing → (t.disp k).message = .cardBlocked) ∧
                ((s.sess k).write = .none → (t.kcard k).grant = none))) ∧
            ((s.sess k).state ≠ .authorising → ((s.sess k).state ≠ .paying ∨ (s.sess k).kind = .paperSale) →
              t.sess k = s.sess k))) ∧
    exec .stoplistClear s = .next (({ v with cards := { v.cards with stopList := [] } } : State).withReply 0x48 .ok [])

/-- After every step from a state whose stop-list is strictly ascending, at most 4,096 long and without 0, it is so. -/
def Obligations.StopListKeptByEveryStep : Prop :=
  ∀ s t : State, s.cards.stopWf → step s = .next t → t.cards.stopWf

/-- The tests of the offline rule in order: a full table without an entry for the card, the per-card limit (also where
no bank is ACTIVE), the float; a request that passes all three is granted.

The balance of the float: a grant by the offline rule to a kiosk without one, a delivery and a restoration each leave
float remaining, held total and delivered together as they were, and a denial leaves the float. A delivery raises what is
delivered by the grant and keeps the remaining; a restoration raises the remaining by it and keeps the delivered. The
card's entry gives up the held amount, and at a restoration the total too, leaving the table at total 0. -/
def Obligations.OfflineRuleKeepsFloatInBalance : Prop :=
  (∀ (card a : Nat) (s : State),
     let known := ∃ e ∈ s.cards.offline, e.card = card
     (¬ known → 64 ≤ s.cards.offline.length → offlineDenial s card a = some .offlineTableFull) ∧
     (known ∨ s.cards.offline.length < 64 →
       (s.activeHeader = none → offlineDenial s card a = some .offlineLimit) ∧
       ∀ h, s.activeHeader = some h →
         (h.offlineLimit < offlineTotal s.cards.offline card + a → offlineDenial s card a = some .offlineLimit) ∧
         (offlineTotal s.cards.offline card + a ≤ h.offlineLimit →
           (s.cards.floatRemaining < a → offlineDenial s card a = some .floatExhausted) ∧
           (a ≤ s.cards.floatRemaining → offlineDenial s card a = none)))) ∧
  (∀ (k : Kiosk) (s : State),
     let total := fun t : State => t.cards.floatRemaining + t.heldTotal + t.cards.delivered
     (∀ card a : Nat, (s.kcard k).grant = none →
       let r := offlineRule k card a s
       total r.1 = total s ∧
       (r.2 = none → a ≤ s.cards.floatRemaining ∧ (r.1.kcard k).grant = some { card := card, amount := a } ∧
         r.1.cards.floatRemaining = s.cards.floatRemaining - a) ∧
       (r.2 ≠ none → r.1.cards.floatRemaining = s.cards.floatRemaining ∧ (r.1.kcard k).grant = none)) ∧
     ((s.kcard k).grant = none → deliverGrant k s = s ∧ restoreGrant k s = s) ∧
     (∀ g, (s.kcard k).grant = some g →
       let d := deliverGrant k s
       let r := restoreGrant k s
       (total d = total s ∧ (d.kcard k).grant = none ∧ d.cards.delivered = s.cards.delivered + g.amount ∧
         d.cards.floatRemaining = s.cards.floatRemaining ∧
         d.cards.offline = s.cards.offline.map (fun e => if e.card = g.card then { e with held := e.held - g.amount } else e)) ∧
       (total r = total s ∧ (r.kcard k).grant = none ∧ r.cards.delivered = s.cards.delivered ∧
         r.cards.floatRemaining = s.cards.floatRemaining + g.amount ∧
         (∀ e ∈ s.cards.offline, e.card = g.card →
           (g.amount < e.total → { e with total := e.total - g.amount, held := e.held - g.amount } ∈ r.cards.offline)) ∧
         (∀ e, e.card ≠ g.card → e.total ≠ 0 → (e ∈ r.cards.offline ↔ e ∈ s.cards.offline)) ∧
         ∀ e ∈ r.cards.offline, e.total ≠ 0)))

/-- FLOAT-SET: the float is the value, remaining is the value less the held total, delivered starts from 0; a value
above 500,000 is BAD_FIELD and one below the held total FLOAT_TOO_LOW, with nothing changed. -/
def Obligations.FloatSetEstablishesFloat : Prop :=
  ∀ (value : Triple) (s : State), s.hears →
    let v := frameForStation s
    (500000 < value.toNat → exec (.floatSet value) s = .next (v.withReply 0x52 .badField [])) ∧
    (value.toNat ≤ 500000 → value.toNat < s.heldTotal → exec (.floatSet value) s = .next (v.withReply 0x52 .floatTooLow [])) ∧
    (value.toNat ≤ 500000 → s.heldTotal ≤ value.toNat →
      ∃ t, exec (.floatSet value) s = .next t ∧ t.cards.floatSet = value.toNat ∧
        t.cards.floatRemaining = value.toNat - s.heldTotal ∧ t.cards.delivered = 0 ∧ t.heldTotal = s.heldTotal ∧
        t.cards.floatLow = decide (t.cards.floatRemaining * 10 < t.cards.floatSet) ∧ t.cards.stopList = s.cards.stopList ∧
        t.depot.reply = some (replyFrame 0x52 { status := .ok, data := [] } t) ∧ t.kiosks = s.kiosks)

/-- AUTH-FETCH answers the oldest four listed requests with their fetched fields as they stood, marks them fetched and
removes none. AUTH-ANSWER to a listed request concludes it: GRANT leads to PAYING with authorisation GRANTED_ONLINE,
DENY back to SELECTING with message DENIED and the reservation released; the request leaves the list. An answer to no
listed request is judged by the kiosk's last-request record: OK where it repeats the conclusion of that very request,
LATE for another conclusion or an earlier attempt of its session, else NO_SUCH_REQUEST; it changes nothing.

The authorisation timer running out in AUTHORISING takes the request from the list with conclusion TIMEOUT and
leaves it to the offline rule: a grant leads to PAYING with authorisation GRANTED_OFFLINE and the amount held, a denial
back to SELECTING with the reason shown and the reservation released. -/
def Obligations.AuthorisationsConcluded : Prop :=
  (∀ s : State, s.hears →
     let v := frameForStation s
     let oldest := s.cards.authList.take 4
     exec .authFetch s = .next
       (({ v with cards := { v.cards with
             authList := oldest.map (fun e => { e with fetched := true }) ++ s.cards.authList.drop 4 } } : State).withReply 0x4B .ok
         (BitVec.ofNat 8 oldest.length :: oldest.flatMap AuthEntry.bytes)) ∧
     ∀ (kiosk attempt : Byte) (serial : Half) (k : Kiosk), kiosk.toNat = k.val → attempt ≠ 0 →
       ((∃ e ∈ s.cards.authList, e.kiosk = k ∧ e.serial = serial.toNat ∧ e.attempt = attempt.toNat) →
         (∃ t, exec (.authAnswer kiosk serial attempt 0) s = .next t ∧ (t.sess k).state = .paying ∧
           (t.sess k).auth = .grantedOnline ∧ (t.sess k).tAuthorisation = none ∧ t.listed k = false ∧
           (t.sess k).tInactivity = some s.settings.inactivity ∧ t.journal = s.journal) ∧
         (∃ t, exec (.authAnswer kiosk serial attempt 1) s = .next t ∧ (t.sess k).state = .selecting ∧
           (t.sess k).auth = .denied ∧ (t.sess k).fixed = (s.sess k).fixed ∧ t.listed k = false ∧
           (t.disp k).message = .denied ∧ t.journal.reservations = s.journal.reservations - 1 ∧
           t.journal.records = s.journal.records)) ∧
       ((∀ e ∈ s.cards.authList, ¬(e.kiosk = k ∧ e.serial = serial.toNat ∧ e.attempt = attempt.toNat)) →
         ∀ decision : Byte, decision.toNat ≤ 1 →
         ((s.kcard k).lastRequest = none →
           exec (.authAnswer kiosk serial attempt decision) s = .next (v.withReply 0x4C .noSuchRequest [])) ∧
         ∀ r, (s.kcard k).lastRequest = some r →
           (r.serial ≠ serial.toNat ∨ r.attempt < attempt.toNat →
             exec (.authAnswer kiosk serial attempt decision) s = .next (v.withReply 0x4C .noSuchRequest [])) ∧
           (r.serial = serial.toNat → attempt.toNat < r.attempt →
             exec (.authAnswer kiosk serial attempt decision) s = .next (v.withReply 0x4C .late [])) ∧
           (r.serial = serial.toNat → r.attempt = attempt.toNat →
             exec (.authAnswer kiosk serial attempt decision) s = .next (v.withReply 0x4C
               (if r.conclusion = (if decision = 0 then .grant else .deny) then .ok else .late) [])))) ∧
  (∀ (k : Kiosk) (c : CardImage) (p : PriceRecord) (amount fee : Nat) (s : State),
     (s.sess k).tAuthorisation.isSome = true → (s.sess k).state = .authorising → (s.sess k).card = some c →
     (s.sess k).fixed = some p → p.detail = .topup amount fee →
     (offlineDenial s c.number amount = none →
       ∃ t, exec (.authorisationTimerExpiry k) s = .next t ∧ (t.sess k).state = .paying ∧
         (t.sess k).auth = .grantedOffline ∧ (t.sess k).offlineHeld = amount ∧
         (t.kcard k).grant = some { card := c.number, amount := amount } ∧
         t.cards.floatRemaining = s.cards.floatRemaining - amount ∧ t.listed k = false ∧ t.journal = s.journal ∧
         (t.kcard k).lastRequest = (s.kcard k).lastRequest.map (fun r => { r with conclusion := .timeout })) ∧
     (∀ m, offlineDenial s c.number amount = some m →
       ∃ t, exec (.authorisationTimerExpiry k) s = .next t ∧ (t.sess k).state = .selecting ∧ (t.sess k).auth = .denied ∧
         (t.disp k).message = m ∧ t.listed k = false ∧ t.cards.floatRemaining = s.cards.floatRemaining ∧
         t.journal.reservations = s.journal.reservations - 1 ∧ t.journal.records = s.journal.records))

/-! ### Receipts (chapter 8) -/

/-- A job's lines: at most 48; the walk's own lines where no uncertain text is due; with a write UNKNOWN or ISSUED and
no kept line from TOPUP_STATUS the uncertain text is the last line; TRUNCATED is set when the walk gave more than 48,
and the nest limit is the walk's whatever was cut. That the kept lines are the ones searched is log entry 18. -/
def Obligations.PrintedLinesBounded : Prop :=
  ∀ (s : State) (c : Closed),
    let walk := expandTemplate s c 2 (chosenTemplate s c.outcome c.sess.kind)
    let p := printedOf s c
    p.lines.length ≤ 48 ∧ p.nestLimit = walk.2 ∧ (48 < walk.1.length → p.truncated = true) ∧
    (c.sess.write ≠ .unknown → c.sess.write ≠ .issued →
      p.lines = (walk.1.take 48).map (·.text) ∧ (p.truncated = true ↔ 48 < walk.1.length)) ∧
    (c.sess.write = .unknown ∨ c.sess.write = .issued → (∀ x ∈ walk.1.take 48, x.fromStatus = false) →
      p.lines.getLast? = some (if c.sess.kind = .topup then chars "TOP-UP PENDING CONFIRMATION"
        else chars "CARD WRITE PENDING CONFIRMATION"))

/-- A PRINTRDY for a head job that is not SUSPENDED, with unsent lines and fewer than two PRINTs queued, sends one PRINT
of the smallest of the free slots, four and the unsent lines, with CUT when it holds the last; those lines are in
flight. A SUSPENDED head, a head with no unsent line, an empty print queue or two queued PRINTs send nothing. -/
def Obligations.PrinterCreditSendsLines : Prop :=
  ∀ (l : LoopId) (a : Bool) (k : Kiosk) (slots : Nat) (s : State), s.polls l k → 1 ≤ slots → slots ≤ 8 →
    let u := s.acked l a
    (∀ (j : Job) (rest : List Job), u.jobs k = j :: rest → j.state ≠ .suspended →
      countKind (u.link k).queue .print < 2 → j.taken + j.inFlight < j.lines.length →
      let unsent := j.lines.drop (j.taken + j.inFlight)
      let n := min (min slots 4) unsent.length
      exec (.printRdy l a slots) s = .next (nextPoll l (u.upd k (fun c =>
        { c with
          link := { c.link with queue := c.link.queue ++
            [{ cmd := .print (unsent.take n) (decide (n = unsent.length)), sent := none }] },
          jobs := { j with inFlight := j.inFlight + n } :: rest })))) ∧
    ((u.jobs k = [] ∨ (∃ j rest, u.jobs k = j :: rest ∧ (j.state = .suspended ∨ j.lines.length ≤ j.taken + j.inFlight)) ∨
        2 ≤ countKind (u.link k).queue .print) →
      exec (.printRdy l a slots) s = .next (nextPoll l u))

/-! ### The journal (chapter 9) -/

/-- JOURNAL-READ answers the oldest record with the number held and changes nothing; JOURNAL-POP removes it, answers its
kiosk, serial and the number left, and clears the high flag when the occupancy falls from 192; both answer EMPTY on an
empty queue. -/
def Obligations.JournalReadAndPop : Prop :=
  ∀ s : State, s.hears →
    let v := frameForStation s
    (s.journal.records = [] → exec .journalRead s = .next (v.withReply 0x49 .empty []) ∧
      exec .journalPop s = .next (v.withReply 0x4A .empty [])) ∧
    ∀ (r : Record) (rest : List Record), s.journal.records = r :: rest →
      exec .journalRead s = .next (v.withReply 0x49 .ok (beBytes 2 (rest.length + 1) ++ r.bytes)) ∧
      exec .journalPop s = .next
        (({ v with journal :=
              { records := rest, reservations := s.journal.reservations,
                highFlag := if rest.length + 1 + s.journal.reservations = 192 then false else s.journal.highFlag } } : State).withReply
          0x4A .ok (byte1 r.kiosk.val ++ beBytes 2 r.serial ++ beBytes 2 rest.length))

/-! ### The clock and the service day (chapter 10) -/

/-- An elapsed second: an INVALID clock does not move; a VALID one shows the next second of the real calendar, and stays
at 2099-12-31 23:59:59; the held service day becomes the computed one where that is higher, and DAY_ROLLED is raised. -/
def Obligations.ClockAdvancesOneSecond : Prop :=
  ∀ s : State,
    (s.clock.state = .invalid → exec .clockSecond s = .next s) ∧
    (s.clock.state = .valid → s.clock.dateTime.real = true →
      ∃ t, exec .clockSecond s = .next t ∧ t.clock.state = .valid ∧ t.clock.dateTime.real = true ∧
        (s.clock.dateTime = ⟨2099, 12, 31, 23, 59, 59⟩ → t.clock.dateTime = s.clock.dateTime) ∧
        (s.clock.dateTime ≠ ⟨2099, 12, 31, 23, 59, 59⟩ → t.clock.dateTime.seconds = s.clock.dateTime.seconds + 1) ∧
        t.clock.heldDay = max s.clock.heldDay (serviceDay t.clock.dateTime s.settings.boundary) ∧
        (s.clock.heldDay < t.clock.heldDay →
          (t.depot.events[EventKind.dayRolled.no]).on = true ∧ ∀ k, t.daily k = ⟨0, 0⟩) ∧
        t.journal = s.journal ∧ ∀ k, t.sess k = s.sess k ∧ t.cash k = s.cash k)

/-- CLOCK-SET: the first set makes the clock VALID and takes the computed service day with no roll; a later one keeps
the held day unless the computed day is above it, and then rolls; a date or time that is not real is BAD_FIELD and
changes nothing. -/
def Obligations.ClockSetKeepsHeldDay : Prop :=
  ∀ (f : DateTimeField) (s : State), s.hears →
    let v := frameForStation s
    (dateTimeOf f = none → exec (.clockSet f) s = .next (v.withReply 0x41 .badField [])) ∧
    ∀ d, dateTimeOf f = some d →
      ∃ t, exec (.clockSet f) s = .next t ∧ t.clock.dateTime = d ∧ t.clock.state = .valid ∧ d.real = true ∧
        (s.clock.state = .invalid → t.clock.heldDay = serviceDay d s.settings.boundary ∧
          t.depot.events[EventKind.dayRolled.no] = s.depot.events[EventKind.dayRolled.no] ∧ ∀ k, t.daily k = s.daily k) ∧
        (s.clock.state = .valid → t.clock.heldDay = max s.clock.heldDay (serviceDay d s.settings.boundary) ∧
          (s.clock.heldDay < serviceDay d s.settings.boundary →
            (t.depot.events[EventKind.dayRolled.no]).on = true ∧ ∀ k, t.daily k = ⟨0, 0⟩)) ∧
        t.journal = s.journal ∧ ∀ k, t.sess k = s.sess k

/-- Once the clock is VALID it stays so and the held service day never falls, whatever command is executed but a cold
start. -/
def Obligations.HeldDayNeverFalls : Prop :=
  ∀ (c : Instr) (s t : State), (∀ pins, c ≠ .coldStart pins) → s.clock.state = .valid → exec c s = .next t →
    t.clock.state = .valid ∧ s.clock.heldDay ≤ t.clock.heldDay

/-! ### The depot line (chapter 11) -/

/-- The timers of the depot link: supervision takes ONLINE to HOLD with three times the supervision time and concludes
every listed request, HOLD ends in a SEARCH from 9,600 bit/s, and a hunt step moves to the next rate and from the last
back to the first; in any other link state each leaves the part as it is (log entry 5).

What a good frame to this station does to the link before it is judged: ONLINE only restarts the supervision timer;
SEARCH and HOLD enter ONLINE at the rate in use, raise LINK_RESTORED and clear the offline table but for what running
sessions hold. -/
def Obligations.DepotLinkChangesState : Prop :=
  (∀ (s : State) (r : DepotRate),
     (s.depot.link = .online r →
       ∃ t, exec .supervisionTimerExpiry s = .next t ∧ t.depot.link = .hold r ∧
         t.depot.linkTimerMs = 3000 * s.settings.supervision ∧ t.cards.authList = [] ∧
         exec .holdTimerExpiry s = .next s ∧ exec .huntStepExpiry s = .next s) ∧
     (s.depot.link = .hold r →
       exec .holdTimerExpiry s = .next { s with depot := { s.depot with link := .search .r9600, linkTimerMs := 250 } } ∧
       exec .supervisionTimerExpiry s = .next s ∧ exec .huntStepExpiry s = .next s) ∧
     (s.depot.link = .search r →
       exec .huntStepExpiry s = .next { s with depot := { s.depot with linkTimerMs := 250, link := .search (match r with
         | .r9600 => .r19200 | .r19200 => .r38400 | .r38400 => .r57600 | .r57600 => .r115200 | .r115200 => .r9600) } } ∧
       exec .supervisionTimerExpiry s = .next s ∧ exec .holdTimerExpiry s = .next s)) ∧
  (∀ (s : State) (r : DepotRate),
     (s.depot.link = .online r →
       frameForStation s = { s with depot := { s.depot with link := .online r, linkTimerMs := 1000 * s.settings.supervision } }) ∧
     (s.depot.link = .search r ∨ s.depot.link = .hold r →
       let t := frameForStation s
       t.depot.link = .online r ∧ t.depot.linkTimerMs = 1000 * s.settings.supervision ∧
       (t.depot.events[EventKind.linkRestored.no]).on = true ∧
       t.cards = { s.cards with
         offline := (s.cards.offline.filter (fun e => decide (e.held ≠ 0))).map (fun e => { e with total := e.held }) } ∧
       t.kiosks = s.kiosks ∧ t.tariff = s.tariff ∧ t.journal = s.journal ∧ t.clock = s.clock ∧ t.coins = s.coins ∧
       t.settings = s.settings ∧ t.templates = s.templates ∧ t.depot.mode = s.depot.mode ∧ t.depot.unmasked = s.depot.unmasked))

/-- The depot frames that earn no reply: a bad frame changes nothing but that no reply is sent; a frame for another
station ends a search and restarts no timer (log entry 28); a frame for this station of a kind that earns no reply supervises the
link.

The envelope of a request: a kind below 0x80 outside Table 11-3 is BAD_KIND, and a kind of the table whose payload
has not the length of Table 12-6 is BAD_LENGTH; neither changes anything but the link. -/
def Obligations.FramesWithoutReplyAndEnvelopes : Prop :=
  (∀ (s : State) (r : DepotRate), s.depot.restartOwed = false →
     exec .depotBadFrame s = .next { s with depot := { s.depot with reply := none } } ∧
     (s.depot.link = .online r ∨ s.depot.link = .hold r →
       exec .depotFrameOtherStation s = .next { s with depot := { s.depot with reply := none } }) ∧
     (s.depot.link = .search r →
       ∃ t, exec .depotFrameOtherStation s = .next t ∧ t.depot.link = .online r ∧ t.depot.reply = none ∧
         t.depot.linkTimerMs = 1000 * s.settings.supervision ∧ (t.depot.events[EventKind.linkRestored.no]).on = true) ∧
     (let v := frameForStation s;
      exec .depotFrameNoReply s = .next { v with depot := { v.depot with reply := none } })) ∧
  (∀ (kind : Byte) (p : List Byte) (s : State), s.hears → kind.toNat < 128 →
     let v := frameForStation s
     (kind.toNat < 0x40 ∨ 0x54 < kind.toNat →
       exec (.badKind kind p) s = .next (v.withReply kind .badKind [])) ∧
     (0x40 ≤ kind.toNat → kind.toNat ≤ 0x54 → (∃ n, requestLength kind p = some n ∧ n ≠ p.length) →
       exec (.badKind kind p) s = .next (v.withReply kind .badLength [])))

/-- The event requests: READ answers the pending set, the kiosks and the mask and changes nothing; MASK replaces the
whole mask and no pending kind; CLEAR removes the named pending kinds, after which a removed level kind is pending
exactly when its condition holds, and every kind not named stays. A set naming a kind above 23 is BAD_FIELD. -/
def Obligations.EventRequests : Prop :=
  ∀ (kinds : Word) (s : State), s.hears →
    let v := frameForStation s
    exec .eventsRead s = .next (v.withReply 0x4D .ok (eventsData v)) ∧
    (2 ^ 24 ≤ kinds.toNat → exec (.eventsMask kinds) s = .next (v.withReply 0x4F .badField []) ∧
      exec (.eventsClear kinds) s = .next (v.withReply 0x4E .badField [])) ∧
    (kinds.toNat < 2 ^ 24 →
      (∃ t, exec (.eventsMask kinds) s = .next t ∧ (∀ e : EventKind, t.depot.unmasked[e.no] = kinds.getLsbD e.no.val) ∧
        t.depot.events = v.depot.events ∧ t.kiosks = s.kiosks ∧ t.journal = s.journal ∧
        t.depot.reply = some (replyFrame 0x4F { status := .ok, data := [] } t)) ∧
      (∃ t, exec (.eventsClear kinds) s = .next t ∧
        (∀ e : EventKind, kinds.getLsbD e.no.val = false → t.depot.events[e.no] = v.depot.events[e.no]) ∧
        (∀ e : EventKind, kinds.getLsbD e.no.val = true → (v.depot.events[e.no]).on = true → e ∉ levelEvents →
          (t.depot.events[e.no]).on = false ∧ (t.depot.events[e.no]).kiosks = []) ∧
        (∀ e ∈ levelEvents, kinds.getLsbD e.no.val = true → (v.depot.events[e.no]).on = true →
          (t.depot.events[e.no]).on = levelHolds e s) ∧
        t.kiosks = s.kiosks ∧ t.journal = s.journal ∧ t.depot.unmasked = s.depot.unmasked))

/-- KIOSK-READ answers the record of a kiosk in any link state and then clears its door report flag alone; a kiosk
above 15 is BAD_INDEX.

KIOSK-CONTROL IN_SERVICE and OUT_OF_SERVICE clear and set the cause SERVER of a configured kiosk and answer its
service and inlet states; where that changes the service state of an IDLE kiosk its message follows. A kiosk that is
UNUSED is NOT_FOUND. -/
def Obligations.KioskReadAndServiceControl : Prop :=
  (∀ (kiosk : Byte) (s : State), s.hears →
     let v := frameForStation s
     (∀ k : Kiosk, kiosk.toNat = k.val →
       exec (.kioskRead kiosk) s =
         .next ((v.updLink k (fun l => { l with doorReport := false })).withReply 0x51 .ok (kioskData k s))) ∧
     (16 ≤ kiosk.toNat → exec (.kioskRead kiosk) s = .next (v.withReply 0x51 .badIndex []))) ∧
  (∀ (kiosk : Byte) (k : Kiosk) (s : State), s.hears → kiosk.toNat = k.val →
     let v := frameForStation s
     let inlet := if (s.cash k).inlet.state = .opened then 0#8 else 1#8
     ((s.link k).state = .unused →
       exec (.kioskControlInService kiosk) s = .next (v.withReply 0x50 .notFound []) ∧
       exec (.kioskControlOutOfService kiosk) s = .next (v.withReply 0x50 .notFound [])) ∧
     ((s.link k).state ≠ .unused →
       (∃ t, exec (.kioskControlInService kiosk) s = .next t ∧ (t.svc k) = { (s.svc k) with server := false } ∧
         t.depot.reply = some (replyFrame 0x50 { status := .ok, data := [if (s.svc k).service then 1 else 0, inlet] } t) ∧
         ((s.sess k).state = .idle → (s.svc k).out = true → (s.svc k).service = false → s.depot.mode = .selling →
           (t.disp k).message = .ready) ∧ t.sess k = s.sess k ∧ t.cash k = s.cash k) ∧
       (∃ t, exec (.kioskControlOutOfService kiosk) s = .next t ∧ (t.svc k) = { (s.svc k) with server := true } ∧
         t.depot.reply = some (replyFrame 0x50 { status := .ok, data := [1, inlet] } t) ∧
         ((s.sess k).state = .idle → (s.svc k).out = false → s.depot.mode = .selling → (t.disp k).message = .outOfService) ∧
         ((s.sess k).state ≠ .idle → t.disp k = s.disp k) ∧ t.sess k = s.sess k ∧ t.cash k = s.cash k)))

/-- MODE-SET: naming the current mode changes nothing, whichever of the three it is; SELLING is refused CLOCK_UNSET with
the clock INVALID, then TABLES_INCOMPLETE naming HEADER with no ACTIVE bank, COIN with no entry of use ACCEPT, and TUBE
with the lowest configured kiosk that has no tube in use; LOADING is refused BUSY unless every session is IDLE; SUSPENDED
is refused WRONG_MODE from LOADING. A change that is taken sets the mode, and each IDLE kiosk shows its message. -/
def Obligations.ModeSetJudged : Prop :=
  ∀ s : State, s.hears →
    let v := frameForStation s
    let accepts := ∃ (i : CoinType) (e : CoinEntry), s.coins[i] = some e ∧ e.use = .accept
    let lacks := fun k : Kiosk => (s.link k).state ≠ .unused ∧ ∀ n : TubeNo, ((s.cash k).tubes[n]).coinType = none
    (s.depot.mode = .loading → exec .modeSetLoading s = .next (v.withReply 0x53 .ok []) ∧
      exec .modeSetSuspended s = .next (v.withReply 0x53 .wrongMode [])) ∧
    (s.depot.mode = .suspended → exec .modeSetSuspended s = .next (v.withReply 0x53 .ok [])) ∧
    (s.depot.mode = .selling → exec .modeSetSelling s = .next (v.withReply 0x53 .ok []) ∧
      ∃ t, exec .modeSetSuspended s = .next t ∧ t.depot.mode = .suspended ∧
        ∀ k, t.sess k = s.sess k ∧ ((s.sess k).state = .idle → (t.disp k).message = .closed)) ∧
    (s.depot.mode ≠ .selling → s.clock.state = .invalid → exec .modeSetSelling s = .next (v.withReply 0x53 .clockUnset [])) ∧
    (s.depot.mode ≠ .selling → s.clock.state = .valid →
      (s.tariff.active = none → exec .modeSetSelling s = .next (v.withReply 0x53 .tablesIncomplete [7, 0])) ∧
      (s.tariff.active.isSome = true →
        (¬ accepts → exec .modeSetSelling s = .next (v.withReply 0x53 .tablesIncomplete [3, 0])) ∧
        (accepts →
          (∀ k, lacks k → (∀ j, j < k → ¬ lacks j) →
            exec .modeSetSelling s = .next (v.withReply 0x53 .tablesIncomplete [4, BitVec.ofNat 8 k.val])) ∧
          ((∀ k, ¬ lacks k) → ∃ t, exec .modeSetSelling s = .next t ∧ t.depot.mode = .selling ∧
            ∀ k, t.sess k = s.sess k ∧ ((s.sess k).state = .idle →
              (t.disp k).message = if (s.svc k).out then .outOfService else .ready))))) ∧
    (s.depot.mode ≠ .loading → (∃ k, (s.sess k).state ≠ .idle) →
      exec .modeSetLoading s = .next (v.withReply 0x53 .busy [])) ∧
    (s.depot.mode ≠ .loading → (∀ k, (s.sess k).state = .idle) →
      ∃ t, exec .modeSetLoading s = .next t ∧ t.depot.mode = .loading ∧
        ∀ k, t.sess k = s.sess k ∧ (t.disp k).message = .closed)

/-- The writes of the LOOP, CALIB, SETTINGS and TEMPLATE tables that are taken: each replaces its unit alone. A
boundary write judges the day roll at once where the clock is VALID. -/
def Obligations.UnbankedWritesReplaceUnit : Prop :=
  ∀ s : State, s.hears →
    let v := frameForStation s
    (∀ (l : LoopId) (r : LoopRate) (e : DoorEdge) (index rate edge : Byte),
      index = (match l with | .a => 0#8 | .b => 1#8) → rate = (match r with | .r38400 => 0#8 | .r115200 => 1#8) →
      edge = (match e with | .opening => 0#8 | .closing => 1#8 | .both => 2#8) →
      exec (.tableWriteLoop index rate edge) s =
        .next ((v.setLoop l { s.loop l with rate := r, edge := e }).withReply 0x42 .ok [])) ∧
    (∀ (index : Byte) (k : Kiosk) (u : CalibUnit), index.toNat = k.val →
      u.offset1.toNat ≤ 511 → u.offset2.toNat ≤ 511 → u.offset3.toNat ≤ 511 →
      u.gain1.toNat ≤ 3 → u.gain2.toNat ≤ 3 → u.gain3.toNat ≤ 3 →
      exec (.tableWriteCalib index u) s = .next ((v.updCoin k (fun c =>
        { c with calib1 := ⟨u.offset1.toNat, u.gain1.toNat⟩, calib2 := ⟨u.offset2.toNat, u.gain2.toNat⟩,
                 calib3 := ⟨u.offset3.toNat, u.gain3.toNat⟩ })).withReply 0x42 .ok [])) ∧
    (∀ value : Half,
      (15 ≤ value.toNat → value.toNat ≤ 120 → exec (.tableWriteSettings 1 value) s =
        .next (({ v with settings := { s.settings with inactivity := value.toNat } } : State).withReply 0x42 .ok [])) ∧
      (2 ≤ value.toNat → value.toNat ≤ 20 → exec (.tableWriteSettings 2 value) s =
        .next (({ v with settings := { s.settings with authorisation := value.toNat } } : State).withReply 0x42 .ok [])) ∧
      (1 ≤ value.toNat → value.toNat ≤ 60 → exec (.tableWriteSettings 3 value) s =
        .next (({ v with settings := { s.settings with supervision := value.toNat } } : State).withReply 0x42 .ok [])) ∧
      (∀ p : Fin 16, value.toNat = p.val →
        exec (.tableWriteSettings 4 value) s =
          .next (({ v with settings := { s.settings with saleTemplate := p } } : State).withReply 0x42 .ok []) ∧
        exec (.tableWriteSettings 5 value) s =
          .next (({ v with settings := { s.settings with topupTemplate := p } } : State).withReply 0x42 .ok []) ∧
        exec (.tableWriteSettings 6 value) s =
          .next (({ v with settings := { s.settings with refundTemplate := p } } : State).withReply 0x42 .ok [])) ∧
      (value.toNat ≤ 1439 → ∃ t, exec (.tableWriteSettings 0 value) s = .next t ∧
        t.settings = { s.settings with boundary := value.toNat } ∧
        (s.clock.state = .valid → t.clock.heldDay = max s.clock.heldDay (serviceDay s.clock.dateTime value.toNat)) ∧
        (s.clock.state = .invalid → t.clock = s.clock))) ∧
    (∀ (index place : Byte) (i : Fin 16) (p : Fin 24) (u : TemplateUnit) (r : Option LineRecord),
      index.toNat = i.val → place.toNat = p.val → u.body.length = 32 → templateOf u = some r →
      exec (.tableWriteTemplate index place u) s =
        .next (({ v with templates := s.templates.set i ((s.templates[i]).set p r) } : State).withReply 0x42 .ok []))

/-- The KIOSK table: configuring an UNUSED kiosk makes it ABSENT with its filters at their initial values; while its loop
is in a round it waits for the next one to join the rotation. It raises no event of its own: the only kind it can leave
newly pending is INLET_RELEASED, where the reset of CASHBOX to OK reopens the inlet (log entry 16). Unconfiguring it while
its session is IDLE makes it UNUSED with its queue and print jobs gone, raises no KIOSK_ABSENT and ends an exchange in
progress with it (log entry 26); while the session runs it is refused KIOSK_BUSY. Configuring it again changes nothing. -/
def Obligations.KioskTableConfigures : Prop :=
  ∀ (index : Byte) (k : Kiosk) (s : State), s.hears → index.toNat = k.val →
    let v := frameForStation s
    ((s.link k).state = .unused →
      exec (.tableWriteKiosk index 0) s = .next (v.withReply 0x42 .ok []) ∧
      ∃ t, exec (.tableWriteKiosk index 1) s = .next t ∧ (t.link k).state = .absent ∧ (t.link k).missCount = 0 ∧
        (t.link k).door = ⟨.closed, none, 0⟩ ∧ (t.link k).cashbox = ⟨.ok, none, 0⟩ ∧ (t.link k).paper = ⟨.ok, none, 0⟩ ∧
        (t.link k).service = ⟨.off, none, 0⟩ ∧ (t.link k).doorReport = false ∧ t.sess k = s.sess k ∧
        ((s.loop (loopOf k)).exchange.isSome = true →
          (t.loop (loopOf k)).exchange = (s.loop (loopOf k)).exchange ∧ k ∈ (t.loop (loopOf k)).joining) ∧
        (∀ e : EventKind, e ≠ .inletReleased → t.depot.events[e.no] = v.depot.events[e.no]) ∧
        (∀ j, j ≠ k → t.sess j = s.sess j ∧ t.cash j = s.cash j ∧ (t.link j).state = (s.link j).state)) ∧
    ((s.link k).state ≠ .unused →
      exec (.tableWriteKiosk index 1) s = .next (v.withReply 0x42 .ok []) ∧
      ((s.sess k).state ≠ .idle → exec (.tableWriteKiosk index 0) s = .next (v.withReply 0x42 .kioskBusy [])) ∧
      ((s.sess k).state = .idle →
        ∃ t, exec (.tableWriteKiosk index 0) s = .next t ∧ (t.link k).state = .unused ∧ (t.link k).queue = [] ∧
          (t.link k).heldShow = none ∧ (t.link k).heldInlet = none ∧ t.jobs k = [] ∧ (t.coin k).flight = none ∧
          (t.coin k).returnsOwed = 0 ∧ (t.link k).doorReport = false ∧ (t.link k).firstStatusPending = false ∧
          (t.sess k).state = .idle ∧
          (∀ x, (t.loop (loopOf k)).exchange = some x → x.kiosk ≠ k) ∧
          t.depot.events[EventKind.kioskAbsent.no] = v.depot.events[EventKind.kioskAbsent.no]))
end

