-- ==== Sys2Proof/Laws/State.lean ====
section
/-! SUPPORT. The small lemmas of the state: what each named update of one kiosk, of a loop, of the pending set
and of the reply leaves in each field. -/

namespace Sys2Proof.Machine

/-! ### Contexts -/

@[simp] theorem State.ctx_setCtx_same (s : State) (k : Kiosk) (c : KioskCtx) : (s.setCtx k c).ctx k = c := by
  simp [State.ctx, State.setCtx]

theorem State.ctx_setCtx (s : State) (k j : Kiosk) (c : KioskCtx) :
    (s.setCtx k c).ctx j = if j = k then c else s.ctx j := by
  by_cases h : j = k
  · subst h; simp
  · have h2 : k.val ≠ j.val := fun e => h (Fin.ext e.symm)
    simp [State.ctx, State.setCtx, h, h2]

@[simp] theorem State.ctx_upd_same (s : State) (k : Kiosk) (f : KioskCtx → KioskCtx) :
    (s.upd k f).ctx k = f (s.ctx k) := by simp [State.upd]

theorem State.ctx_upd (s : State) (k j : Kiosk) (f : KioskCtx → KioskCtx) :
    (s.upd k f).ctx j = if j = k then f (s.ctx j) else s.ctx j := by
  by_cases h : j = k
  · subst h; simp
  · simp [State.upd, State.ctx_setCtx, h]

/-- Two changes of one kiosk make one. -/
@[simp] theorem State.upd_upd (s : State) (k : Kiosk) (f g : KioskCtx → KioskCtx) :
    (s.upd k f).upd k g = s.upd k (fun c => g (f c)) := by
  simp [State.upd, State.setCtx, State.ctx]

/-- A state is known by its shared fields and its contexts. -/
theorem State.ext_ctx {s t : State} (h : ∀ k, s.ctx k = t.ctx k)
    (hp : s.pending = t.pending) (ha : s.loopA = t.loopA) (hb : s.loopB = t.loopB) (hc : s.coins = t.coins)
    (ht : s.tariff = t.tariff) (hd : s.cards = t.cards) (hm : s.templates = t.templates)
    (hs : s.settings = t.settings) (hj : s.journal = t.journal) (hk : s.clock = t.clock) (he : s.depot = t.depot) :
    s = t := by
  have hv : s.kiosks = t.kiosks := by
    apply Vector.ext
    intro i hi
    exact h ⟨i, hi⟩
  cases s; cases t; simp_all

/-! ### The parts of a kiosk under each update -/

@[simp] theorem State.link_updLink_same (s : State) (k : Kiosk) (f : KLink → KLink) : (s.updLink k f).link k = f (s.link k) := by
  simp [State.link, State.updLink]
theorem State.link_updLink (s : State) (k j : Kiosk) (f : KLink → KLink) :
    (s.updLink k f).link j = if j = k then f (s.link j) else s.link j := by
  by_cases h : j = k <;> simp [State.link, State.updLink, State.ctx_upd, h]
@[simp] theorem State.link_updLink_ne (s : State) {k j : Kiosk} (h : j ≠ k) (f : KLink → KLink) :
    (s.updLink k f).link j = s.link j := by
  simp [State.link_updLink, h]
@[simp] theorem State.coin_updLink (s : State) (k j : Kiosk) (f : KLink → KLink) : (s.updLink k f).coin j = s.coin j := by
  simp only [State.coin, State.updLink, State.ctx_upd]; split <;> rfl
@[simp] theorem State.cash_updLink (s : State) (k j : Kiosk) (f : KLink → KLink) : (s.updLink k f).cash j = s.cash j := by
  simp only [State.cash, State.updLink, State.ctx_upd]; split <;> rfl
@[simp] theorem State.sess_updLink (s : State) (k j : Kiosk) (f : KLink → KLink) : (s.updLink k f).sess j = s.sess j := by
  simp only [State.sess, State.updLink, State.ctx_upd]; split <;> rfl
@[simp] theorem State.svc_updLink (s : State) (k j : Kiosk) (f : KLink → KLink) : (s.updLink k f).svc j = s.svc j := by
  simp only [State.svc, State.updLink, State.ctx_upd]; split <;> rfl
@[simp] theorem State.kcard_updLink (s : State) (k j : Kiosk) (f : KLink → KLink) : (s.updLink k f).kcard j = s.kcard j := by
  simp only [State.kcard, State.updLink, State.ctx_upd]; split <;> rfl
@[simp] theorem State.disp_updLink (s : State) (k j : Kiosk) (f : KLink → KLink) : (s.updLink k f).disp j = s.disp j := by
  simp only [State.disp, State.updLink, State.ctx_upd]; split <;> rfl
@[simp] theorem State.jobs_updLink (s : State) (k j : Kiosk) (f : KLink → KLink) : (s.updLink k f).jobs j = s.jobs j := by
  simp only [State.jobs, State.updLink, State.ctx_upd]; split <;> rfl
@[simp] theorem State.daily_updLink (s : State) (k j : Kiosk) (f : KLink → KLink) : (s.updLink k f).daily j = s.daily j := by
  simp only [State.daily, State.updLink, State.ctx_upd]; split <;> rfl
@[simp] theorem State.pending_updLink (s : State) (k : Kiosk) (f : KLink → KLink) : (s.updLink k f).pending = s.pending := rfl
@[simp] theorem State.loopA_updLink (s : State) (k : Kiosk) (f : KLink → KLink) : (s.updLink k f).loopA = s.loopA := rfl
@[simp] theorem State.loopB_updLink (s : State) (k : Kiosk) (f : KLink → KLink) : (s.updLink k f).loopB = s.loopB := rfl
@[simp] theorem State.coins_updLink (s : State) (k : Kiosk) (f : KLink → KLink) : (s.updLink k f).coins = s.coins := rfl
@[simp] theorem State.tariff_updLink (s : State) (k : Kiosk) (f : KLink → KLink) : (s.updLink k f).tariff = s.tariff := rfl
@[simp] theorem State.cards_updLink (s : State) (k : Kiosk) (f : KLink → KLink) : (s.updLink k f).cards = s.cards := rfl
@[simp] theorem State.templates_updLink (s : State) (k : Kiosk) (f : KLink → KLink) : (s.updLink k f).templates = s.templates := rfl
@[simp] theorem State.settings_updLink (s : State) (k : Kiosk) (f : KLink → KLink) : (s.updLink k f).settings = s.settings := rfl
@[simp] theorem State.journal_updLink (s : State) (k : Kiosk) (f : KLink → KLink) : (s.updLink k f).journal = s.journal := rfl
@[simp] theorem State.clock_updLink (s : State) (k : Kiosk) (f : KLink → KLink) : (s.updLink k f).clock = s.clock := rfl
@[simp] theorem State.depot_updLink (s : State) (k : Kiosk) (f : KLink → KLink) : (s.updLink k f).depot = s.depot := rfl
@[simp] theorem State.loop_updLink (s : State) (k : Kiosk) (f : KLink → KLink) (l : LoopId) : (s.updLink k f).loop l = s.loop l := by
  cases l <;> rfl

@[simp] theorem State.coin_updCoin_same (s : State) (k : Kiosk) (f : KCoin → KCoin) : (s.updCoin k f).coin k = f (s.coin k) := by
  simp [State.coin, State.updCoin]
theorem State.coin_updCoin (s : State) (k j : Kiosk) (f : KCoin → KCoin) :
    (s.updCoin k f).coin j = if j = k then f (s.coin j) else s.coin j := by
  by_cases h : j = k <;> simp [State.coin, State.updCoin, State.ctx_upd, h]
@[simp] theorem State.coin_updCoin_ne (s : State) {k j : Kiosk} (h : j ≠ k) (f : KCoin → KCoin) :
    (s.updCoin k f).coin j = s.coin j := by
  simp [State.coin_updCoin, h]
@[simp] theorem State.link_updCoin (s : State) (k j : Kiosk) (f : KCoin → KCoin) : (s.updCoin k f).link j = s.link j := by
  simp only [State.link, State.updCoin, State.ctx_upd]; split <;> rfl
@[simp] theorem State.cash_updCoin (s : State) (k j : Kiosk) (f : KCoin → KCoin) : (s.updCoin k f).cash j = s.cash j := by
  simp only [State.cash, State.updCoin, State.ctx_upd]; split <;> rfl
@[simp] theorem State.sess_updCoin (s : State) (k j : Kiosk) (f : KCoin → KCoin) : (s.updCoin k f).sess j = s.sess j := by
  simp only [State.sess, State.updCoin, State.ctx_upd]; split <;> rfl
@[simp] theorem State.svc_updCoin (s : State) (k j : Kiosk) (f : KCoin → KCoin) : (s.updCoin k f).svc j = s.svc j := by
  simp only [State.svc, State.updCoin, State.ctx_upd]; split <;> rfl
@[simp] theorem State.kcard_updCoin (s : State) (k j : Kiosk) (f : KCoin → KCoin) : (s.updCoin k f).kcard j = s.kcard j := by
  simp only [State.kcard, State.updCoin, State.ctx_upd]; split <;> rfl
@[simp] theorem State.disp_updCoin (s : State) (k j : Kiosk) (f : KCoin → KCoin) : (s.updCoin k f).disp j = s.disp j := by
  simp only [State.disp, State.updCoin, State.ctx_upd]; split <;> rfl
@[simp] theorem State.jobs_updCoin (s : State) (k j : Kiosk) (f : KCoin → KCoin) : (s.updCoin k f).jobs j = s.jobs j := by
  simp only [State.jobs, State.updCoin, State.ctx_upd]; split <;> rfl
@[simp] theorem State.daily_updCoin (s : State) (k j : Kiosk) (f : KCoin → KCoin) : (s.updCoin k f).daily j = s.daily j := by
  simp only [State.daily, State.updCoin, State.ctx_upd]; split <;> rfl
@[simp] theorem State.pending_updCoin (s : State) (k : Kiosk) (f : KCoin → KCoin) : (s.updCoin k f).pending = s.pending := rfl
@[simp] theorem State.loopA_updCoin (s : State) (k : Kiosk) (f : KCoin → KCoin) : (s.updCoin k f).loopA = s.loopA := rfl
@[simp] theorem State.loopB_updCoin (s : State) (k : Kiosk) (f : KCoin → KCoin) : (s.updCoin k f).loopB = s.loopB := rfl
@[simp] theorem State.coins_updCoin (s : State) (k : Kiosk) (f : KCoin → KCoin) : (s.updCoin k f).coins = s.coins := rfl
@[simp] theorem State.tariff_updCoin (s : State) (k : Kiosk) (f : KCoin → KCoin) : (s.updCoin k f).tariff = s.tariff := rfl
@[simp] theorem State.cards_updCoin (s : State) (k : Kiosk) (f : KCoin → KCoin) : (s.updCoin k f).cards = s.cards := rfl
@[simp] theorem State.templates_updCoin (s : State) (k : Kiosk) (f : KCoin → KCoin) : (s.updCoin k f).templates = s.templates := rfl
@[simp] theorem State.settings_updCoin (s : State) (k : Kiosk) (f : KCoin → KCoin) : (s.updCoin k f).settings = s.settings := rfl
@[simp] theorem State.journal_updCoin (s : State) (k : Kiosk) (f : KCoin → KCoin) : (s.updCoin k f).journal = s.journal := rfl
@[simp] theorem State.clock_updCoin (s : State) (k : Kiosk) (f : KCoin → KCoin) : (s.updCoin k f).clock = s.clock := rfl
@[simp] theorem State.depot_updCoin (s : State) (k : Kiosk) (f : KCoin → KCoin) : (s.updCoin k f).depot = s.depot := rfl
@[simp] theorem State.loop_updCoin (s : State) (k : Kiosk) (f : KCoin → KCoin) (l : LoopId) : (s.updCoin k f).loop l = s.loop l := by
  cases l <;> rfl

@[simp] theorem State.cash_updCash_same (s : State) (k : Kiosk) (f : KCash → KCash) : (s.updCash k f).cash k = f (s.cash k) := by
  simp [State.cash, State.updCash]
theorem State.cash_updCash (s : State) (k j : Kiosk) (f : KCash → KCash) :
    (s.updCash k f).cash j = if j = k then f (s.cash j) else s.cash j := by
  by_cases h : j = k <;> simp [State.cash, State.updCash, State.ctx_upd, h]
@[simp] theorem State.cash_updCash_ne (s : State) {k j : Kiosk} (h : j ≠ k) (f : KCash → KCash) :
    (s.updCash k f).cash j = s.cash j := by
  simp [State.cash_updCash, h]
@[simp] theorem State.link_updCash (s : State) (k j : Kiosk) (f : KCash → KCash) : (s.updCash k f).link j = s.link j := by
  simp only [State.link, State.updCash, State.ctx_upd]; split <;> rfl
@[simp] theorem State.coin_updCash (s : State) (k j : Kiosk) (f : KCash → KCash) : (s.updCash k f).coin j = s.coin j := by
  simp only [State.coin, State.updCash, State.ctx_upd]; split <;> rfl
@[simp] theorem State.sess_updCash (s : State) (k j : Kiosk) (f : KCash → KCash) : (s.updCash k f).sess j = s.sess j := by
  simp only [State.sess, State.updCash, State.ctx_upd]; split <;> rfl
@[simp] theorem State.svc_updCash (s : State) (k j : Kiosk) (f : KCash → KCash) : (s.updCash k f).svc j = s.svc j := by
  simp only [State.svc, State.updCash, State.ctx_upd]; split <;> rfl
@[simp] theorem State.kcard_updCash (s : State) (k j : Kiosk) (f : KCash → KCash) : (s.updCash k f).kcard j = s.kcard j := by
  simp only [State.kcard, State.updCash, State.ctx_upd]; split <;> rfl
@[simp] theorem State.disp_updCash (s : State) (k j : Kiosk) (f : KCash → KCash) : (s.updCash k f).disp j = s.disp j := by
  simp only [State.disp, State.updCash, State.ctx_upd]; split <;> rfl
@[simp] theorem State.jobs_updCash (s : State) (k j : Kiosk) (f : KCash → KCash) : (s.updCash k f).jobs j = s.jobs j := by
  simp only [State.jobs, State.updCash, State.ctx_upd]; split <;> rfl
@[simp] theorem State.daily_updCash (s : State) (k j : Kiosk) (f : KCash → KCash) : (s.updCash k f).daily j = s.daily j := by
  simp only [State.daily, State.updCash, State.ctx_upd]; split <;> rfl
@[simp] theorem State.pending_updCash (s : State) (k : Kiosk) (f : KCash → KCash) : (s.updCash k f).pending = s.pending := rfl
@[simp] theorem State.loopA_updCash (s : State) (k : Kiosk) (f : KCash → KCash) : (s.updCash k f).loopA = s.loopA := rfl
@[simp] theorem State.loopB_updCash (s : State) (k : Kiosk) (f : KCash → KCash) : (s.updCash k f).loopB = s.loopB := rfl
@[simp] theorem State.coins_updCash (s : State) (k : Kiosk) (f : KCash → KCash) : (s.updCash k f).coins = s.coins := rfl
@[simp] theorem State.tariff_updCash (s : State) (k : Kiosk) (f : KCash → KCash) : (s.updCash k f).tariff = s.tariff := rfl
@[simp] theorem State.cards_updCash (s : State) (k : Kiosk) (f : KCash → KCash) : (s.updCash k f).cards = s.cards := rfl
@[simp] theorem State.templates_updCash (s : State) (k : Kiosk) (f : KCash → KCash) : (s.updCash k f).templates = s.templates := rfl
@[simp] theorem State.settings_updCash (s : State) (k : Kiosk) (f : KCash → KCash) : (s.updCash k f).settings = s.settings := rfl
@[simp] theorem State.journal_updCash (s : State) (k : Kiosk) (f : KCash → KCash) : (s.updCash k f).journal = s.journal := rfl
@[simp] theorem State.clock_updCash (s : State) (k : Kiosk) (f : KCash → KCash) : (s.updCash k f).clock = s.clock := rfl
@[simp] theorem State.depot_updCash (s : State) (k : Kiosk) (f : KCash → KCash) : (s.updCash k f).depot = s.depot := rfl
@[simp] theorem State.loop_updCash (s : State) (k : Kiosk) (f : KCash → KCash) (l : LoopId) : (s.updCash k f).loop l = s.loop l := by
  cases l <;> rfl

@[simp] theorem State.sess_updSess_same (s : State) (k : Kiosk) (f : Session → Session) : (s.updSess k f).sess k = f (s.sess k) := by
  simp [State.sess, State.updSess]
theorem State.sess_updSess (s : State) (k j : Kiosk) (f : Session → Session) :
    (s.updSess k f).sess j = if j = k then f (s.sess j) else s.sess j := by
  by_cases h : j = k <;> simp [State.sess, State.updSess, State.ctx_upd, h]
@[simp] theorem State.sess_updSess_ne (s : State) {k j : Kiosk} (h : j ≠ k) (f : Session → Session) :
    (s.updSess k f).sess j = s.sess j := by
  simp [State.sess_updSess, h]
@[simp] theorem State.link_updSess (s : State) (k j : Kiosk) (f : Session → Session) : (s.updSess k f).link j = s.link j := by
  simp only [State.link, State.updSess, State.ctx_upd]; split <;> rfl
@[simp] theorem State.coin_updSess (s : State) (k j : Kiosk) (f : Session → Session) : (s.updSess k f).coin j = s.coin j := by
  simp only [State.coin, State.updSess, State.ctx_upd]; split <;> rfl
@[simp] theorem State.cash_updSess (s : State) (k j : Kiosk) (f : Session → Session) : (s.updSess k f).cash j = s.cash j := by
  simp only [State.cash, State.updSess, State.ctx_upd]; split <;> rfl
@[simp] theorem State.svc_updSess (s : State) (k j : Kiosk) (f : Session → Session) : (s.updSess k f).svc j = s.svc j := by
  simp only [State.svc, State.updSess, State.ctx_upd]; split <;> rfl
@[simp] theorem State.kcard_updSess (s : State) (k j : Kiosk) (f : Session → Session) : (s.updSess k f).kcard j = s.kcard j := by
  simp only [State.kcard, State.updSess, State.ctx_upd]; split <;> rfl
@[simp] theorem State.disp_updSess (s : State) (k j : Kiosk) (f : Session → Session) : (s.updSess k f).disp j = s.disp j := by
  simp only [State.disp, State.updSess, State.ctx_upd]; split <;> rfl
@[simp] theorem State.jobs_updSess (s : State) (k j : Kiosk) (f : Session → Session) : (s.updSess k f).jobs j = s.jobs j := by
  simp only [State.jobs, State.updSess, State.ctx_upd]; split <;> rfl
@[simp] theorem State.daily_updSess (s : State) (k j : Kiosk) (f : Session → Session) : (s.updSess k f).daily j = s.daily j := by
  simp only [State.daily, State.updSess, State.ctx_upd]; split <;> rfl
@[simp] theorem State.pending_updSess (s : State) (k : Kiosk) (f : Session → Session) : (s.updSess k f).pending = s.pending := rfl
@[simp] theorem State.loopA_updSess (s : State) (k : Kiosk) (f : Session → Session) : (s.updSess k f).loopA = s.loopA := rfl
@[simp] theorem State.loopB_updSess (s : State) (k : Kiosk) (f : Session → Session) : (s.updSess k f).loopB = s.loopB := rfl
@[simp] theorem State.coins_updSess (s : State) (k : Kiosk) (f : Session → Session) : (s.updSess k f).coins = s.coins := rfl
@[simp] theorem State.tariff_updSess (s : State) (k : Kiosk) (f : Session → Session) : (s.updSess k f).tariff = s.tariff := rfl
@[simp] theorem State.cards_updSess (s : State) (k : Kiosk) (f : Session → Session) : (s.updSess k f).cards = s.cards := rfl
@[simp] theorem State.templates_updSess (s : State) (k : Kiosk) (f : Session → Session) : (s.updSess k f).templates = s.templates := rfl
@[simp] theorem State.settings_updSess (s : State) (k : Kiosk) (f : Session → Session) : (s.updSess k f).settings = s.settings := rfl
@[simp] theorem State.journal_updSess (s : State) (k : Kiosk) (f : Session → Session) : (s.updSess k f).journal = s.journal := rfl
@[simp] theorem State.clock_updSess (s : State) (k : Kiosk) (f : Session → Session) : (s.updSess k f).clock = s.clock := rfl
@[simp] theorem State.depot_updSess (s : State) (k : Kiosk) (f : Session → Session) : (s.updSess k f).depot = s.depot := rfl
@[simp] theorem State.loop_updSess (s : State) (k : Kiosk) (f : Session → Session) (l : LoopId) : (s.updSess k f).loop l = s.loop l := by
  cases l <;> rfl

@[simp] theorem State.svc_updSvc_same (s : State) (k : Kiosk) (f : Service → Service) : (s.updSvc k f).svc k = f (s.svc k) := by
  simp [State.svc, State.updSvc]
theorem State.svc_updSvc (s : State) (k j : Kiosk) (f : Service → Service) :
    (s.updSvc k f).svc j = if j = k then f (s.svc j) else s.svc j := by
  by_cases h : j = k <;> simp [State.svc, State.updSvc, State.ctx_upd, h]
@[simp] theorem State.svc_updSvc_ne (s : State) {k j : Kiosk} (h : j ≠ k) (f : Service → Service) :
    (s.updSvc k f).svc j = s.svc j := by
  simp [State.svc_updSvc, h]
@[simp] theorem State.link_updSvc (s : State) (k j : Kiosk) (f : Service → Service) : (s.updSvc k f).link j = s.link j := by
  simp only [State.link, State.updSvc, State.ctx_upd]; split <;> rfl
@[simp] theorem State.coin_updSvc (s : State) (k j : Kiosk) (f : Service → Service) : (s.updSvc k f).coin j = s.coin j := by
  simp only [State.coin, State.updSvc, State.ctx_upd]; split <;> rfl
@[simp] theorem State.cash_updSvc (s : State) (k j : Kiosk) (f : Service → Service) : (s.updSvc k f).cash j = s.cash j := by
  simp only [State.cash, State.updSvc, State.ctx_upd]; split <;> rfl
@[simp] theorem State.sess_updSvc (s : State) (k j : Kiosk) (f : Service → Service) : (s.updSvc k f).sess j = s.sess j := by
  simp only [State.sess, State.updSvc, State.ctx_upd]; split <;> rfl
@[simp] theorem State.kcard_updSvc (s : State) (k j : Kiosk) (f : Service → Service) : (s.updSvc k f).kcard j = s.kcard j := by
  simp only [State.kcard, State.updSvc, State.ctx_upd]; split <;> rfl
@[simp] theorem State.disp_updSvc (s : State) (k j : Kiosk) (f : Service → Service) : (s.updSvc k f).disp j = s.disp j := by
  simp only [State.disp, State.updSvc, State.ctx_upd]; split <;> rfl
@[simp] theorem State.jobs_updSvc (s : State) (k j : Kiosk) (f : Service → Service) : (s.updSvc k f).jobs j = s.jobs j := by
  simp only [State.jobs, State.updSvc, State.ctx_upd]; split <;> rfl
@[simp] theorem State.daily_updSvc (s : State) (k j : Kiosk) (f : Service → Service) : (s.updSvc k f).daily j = s.daily j := by
  simp only [State.daily, State.updSvc, State.ctx_upd]; split <;> rfl
@[simp] theorem State.pending_updSvc (s : State) (k : Kiosk) (f : Service → Service) : (s.updSvc k f).pending = s.pending := rfl
@[simp] theorem State.loopA_updSvc (s : State) (k : Kiosk) (f : Service → Service) : (s.updSvc k f).loopA = s.loopA := rfl
@[simp] theorem State.loopB_updSvc (s : State) (k : Kiosk) (f : Service → Service) : (s.updSvc k f).loopB = s.loopB := rfl
@[simp] theorem State.coins_updSvc (s : State) (k : Kiosk) (f : Service → Service) : (s.updSvc k f).coins = s.coins := rfl
@[simp] theorem State.tariff_updSvc (s : State) (k : Kiosk) (f : Service → Service) : (s.updSvc k f).tariff = s.tariff := rfl
@[simp] theorem State.cards_updSvc (s : State) (k : Kiosk) (f : Service → Service) : (s.updSvc k f).cards = s.cards := rfl
@[simp] theorem State.templates_updSvc (s : State) (k : Kiosk) (f : Service → Service) : (s.updSvc k f).templates = s.templates := rfl
@[simp] theorem State.settings_updSvc (s : State) (k : Kiosk) (f : Service → Service) : (s.updSvc k f).settings = s.settings := rfl
@[simp] theorem State.journal_updSvc (s : State) (k : Kiosk) (f : Service → Service) : (s.updSvc k f).journal = s.journal := rfl
@[simp] theorem State.clock_updSvc (s : State) (k : Kiosk) (f : Service → Service) : (s.updSvc k f).clock = s.clock := rfl
@[simp] theorem State.depot_updSvc (s : State) (k : Kiosk) (f : Service → Service) : (s.updSvc k f).depot = s.depot := rfl
@[simp] theorem State.loop_updSvc (s : State) (k : Kiosk) (f : Service → Service) (l : LoopId) : (s.updSvc k f).loop l = s.loop l := by
  cases l <;> rfl

@[simp] theorem State.kcard_updCard_same (s : State) (k : Kiosk) (f : KCard → KCard) : (s.updCard k f).kcard k = f (s.kcard k) := by
  simp [State.kcard, State.updCard]
theorem State.kcard_updCard (s : State) (k j : Kiosk) (f : KCard → KCard) :
    (s.updCard k f).kcard j = if j = k then f (s.kcard j) else s.kcard j := by
  by_cases h : j = k <;> simp [State.kcard, State.updCard, State.ctx_upd, h]
@[simp] theorem State.kcard_updCard_ne (s : State) {k j : Kiosk} (h : j ≠ k) (f : KCard → KCard) :
    (s.updCard k f).kcard j = s.kcard j := by
  simp [State.kcard_updCard, h]
@[simp] theorem State.link_updCard (s : State) (k j : Kiosk) (f : KCard → KCard) : (s.updCard k f).link j = s.link j := by
  simp only [State.link, State.updCard, State.ctx_upd]; split <;> rfl
@[simp] theorem State.coin_updCard (s : State) (k j : Kiosk) (f : KCard → KCard) : (s.updCard k f).coin j = s.coin j := by
  simp only [State.coin, State.updCard, State.ctx_upd]; split <;> rfl
@[simp] theorem State.cash_updCard (s : State) (k j : Kiosk) (f : KCard → KCard) : (s.updCard k f).cash j = s.cash j := by
  simp only [State.cash, State.updCard, State.ctx_upd]; split <;> rfl
@[simp] theorem State.sess_updCard (s : State) (k j : Kiosk) (f : KCard → KCard) : (s.updCard k f).sess j = s.sess j := by
  simp only [State.sess, State.updCard, State.ctx_upd]; split <;> rfl
@[simp] theorem State.svc_updCard (s : State) (k j : Kiosk) (f : KCard → KCard) : (s.updCard k f).svc j = s.svc j := by
  simp only [State.svc, State.updCard, State.ctx_upd]; split <;> rfl
@[simp] theorem State.disp_updCard (s : State) (k j : Kiosk) (f : KCard → KCard) : (s.updCard k f).disp j = s.disp j := by
  simp only [State.disp, State.updCard, State.ctx_upd]; split <;> rfl
@[simp] theorem State.jobs_updCard (s : State) (k j : Kiosk) (f : KCard → KCard) : (s.updCard k f).jobs j = s.jobs j := by
  simp only [State.jobs, State.updCard, State.ctx_upd]; split <;> rfl
@[simp] theorem State.daily_updCard (s : State) (k j : Kiosk) (f : KCard → KCard) : (s.updCard k f).daily j = s.daily j := by
  simp only [State.daily, State.updCard, State.ctx_upd]; split <;> rfl
@[simp] theorem State.pending_updCard (s : State) (k : Kiosk) (f : KCard → KCard) : (s.updCard k f).pending = s.pending := rfl
@[simp] theorem State.loopA_updCard (s : State) (k : Kiosk) (f : KCard → KCard) : (s.updCard k f).loopA = s.loopA := rfl
@[simp] theorem State.loopB_updCard (s : State) (k : Kiosk) (f : KCard → KCard) : (s.updCard k f).loopB = s.loopB := rfl
@[simp] theorem State.coins_updCard (s : State) (k : Kiosk) (f : KCard → KCard) : (s.updCard k f).coins = s.coins := rfl
@[simp] theorem State.tariff_updCard (s : State) (k : Kiosk) (f : KCard → KCard) : (s.updCard k f).tariff = s.tariff := rfl
@[simp] theorem State.cards_updCard (s : State) (k : Kiosk) (f : KCard → KCard) : (s.updCard k f).cards = s.cards := rfl
@[simp] theorem State.templates_updCard (s : State) (k : Kiosk) (f : KCard → KCard) : (s.updCard k f).templates = s.templates := rfl
@[simp] theorem State.settings_updCard (s : State) (k : Kiosk) (f : KCard → KCard) : (s.updCard k f).settings = s.settings := rfl
@[simp] theorem State.journal_updCard (s : State) (k : Kiosk) (f : KCard → KCard) : (s.updCard k f).journal = s.journal := rfl
@[simp] theorem State.clock_updCard (s : State) (k : Kiosk) (f : KCard → KCard) : (s.updCard k f).clock = s.clock := rfl
@[simp] theorem State.depot_updCard (s : State) (k : Kiosk) (f : KCard → KCard) : (s.updCard k f).depot = s.depot := rfl
@[simp] theorem State.loop_updCard (s : State) (k : Kiosk) (f : KCard → KCard) (l : LoopId) : (s.updCard k f).loop l = s.loop l := by
  cases l <;> rfl

@[simp] theorem State.disp_setDisp_same (s : State) (k : Kiosk) (v : Display) : (s.setDisp k v).disp k = v := by
  simp [State.disp, State.setDisp]
theorem State.disp_setDisp (s : State) (k j : Kiosk) (v : Display) :
    (s.setDisp k v).disp j = if j = k then v else s.disp j := by
  by_cases h : j = k <;> simp [State.disp, State.setDisp, State.ctx_upd, h]
@[simp] theorem State.disp_setDisp_ne (s : State) {k j : Kiosk} (h : j ≠ k) (v : Display) :
    (s.setDisp k v).disp j = s.disp j := by
  simp [State.disp_setDisp, h]
@[simp] theorem State.link_setDisp (s : State) (k j : Kiosk) (v : Display) : (s.setDisp k v).link j = s.link j := by
  simp only [State.link, State.setDisp, State.ctx_upd]; split <;> rfl
@[simp] theorem State.coin_setDisp (s : State) (k j : Kiosk) (v : Display) : (s.setDisp k v).coin j = s.coin j := by
  simp only [State.coin, State.setDisp, State.ctx_upd]; split <;> rfl
@[simp] theorem State.cash_setDisp (s : State) (k j : Kiosk) (v : Display) : (s.setDisp k v).cash j = s.cash j := by
  simp only [State.cash, State.setDisp, State.ctx_upd]; split <;> rfl
@[simp] theorem State.sess_setDisp (s : State) (k j : Kiosk) (v : Display) : (s.setDisp k v).sess j = s.sess j := by
  simp only [State.sess, State.setDisp, State.ctx_upd]; split <;> rfl
@[simp] theorem State.svc_setDisp (s : State) (k j : Kiosk) (v : Display) : (s.setDisp k v).svc j = s.svc j := by
  simp only [State.svc, State.setDisp, State.ctx_upd]; split <;> rfl
@[simp] theorem State.kcard_setDisp (s : State) (k j : Kiosk) (v : Display) : (s.setDisp k v).kcard j = s.kcard j := by
  simp only [State.kcard, State.setDisp, State.ctx_upd]; split <;> rfl
@[simp] theorem State.jobs_setDisp (s : State) (k j : Kiosk) (v : Display) : (s.setDisp k v).jobs j = s.jobs j := by
  simp only [State.jobs, State.setDisp, State.ctx_upd]; split <;> rfl
@[simp] theorem State.daily_setDisp (s : State) (k j : Kiosk) (v : Display) : (s.setDisp k v).daily j = s.daily j := by
  simp only [State.daily, State.setDisp, State.ctx_upd]; split <;> rfl
@[simp] theorem State.pending_setDisp (s : State) (k : Kiosk) (v : Display) : (s.setDisp k v).pending = s.pending := rfl
@[simp] theorem State.loopA_setDisp (s : State) (k : Kiosk) (v : Display) : (s.setDisp k v).loopA = s.loopA := rfl
@[simp] theorem State.loopB_setDisp (s : State) (k : Kiosk) (v : Display) : (s.setDisp k v).loopB = s.loopB := rfl
@[simp] theorem State.coins_setDisp (s : State) (k : Kiosk) (v : Display) : (s.setDisp k v).coins = s.coins := rfl
@[simp] theorem State.tariff_setDisp (s : State) (k : Kiosk) (v : Display) : (s.setDisp k v).tariff = s.tariff := rfl
@[simp] theorem State.cards_setDisp (s : State) (k : Kiosk) (v : Display) : (s.setDisp k v).cards = s.cards := rfl
@[simp] theorem State.templates_setDisp (s : State) (k : Kiosk) (v : Display) : (s.setDisp k v).templates = s.templates := rfl
@[simp] theorem State.settings_setDisp (s : State) (k : Kiosk) (v : Display) : (s.setDisp k v).settings = s.settings := rfl
@[simp] theorem State.journal_setDisp (s : State) (k : Kiosk) (v : Display) : (s.setDisp k v).journal = s.journal := rfl
@[simp] theorem State.clock_setDisp (s : State) (k : Kiosk) (v : Display) : (s.setDisp k v).clock = s.clock := rfl
@[simp] theorem State.depot_setDisp (s : State) (k : Kiosk) (v : Display) : (s.setDisp k v).depot = s.depot := rfl
@[simp] theorem State.loop_setDisp (s : State) (k : Kiosk) (v : Display) (l : LoopId) : (s.setDisp k v).loop l = s.loop l := by
  cases l <;> rfl

@[simp] theorem State.jobs_setJobs_same (s : State) (k : Kiosk) (v : (List Job)) : (s.setJobs k v).jobs k = v := by
  simp [State.jobs, State.setJobs]
theorem State.jobs_setJobs (s : State) (k j : Kiosk) (v : (List Job)) :
    (s.setJobs k v).jobs j = if j = k then v else s.jobs j := by
  by_cases h : j = k <;> simp [State.jobs, State.setJobs, State.ctx_upd, h]
@[simp] theorem State.jobs_setJobs_ne (s : State) {k j : Kiosk} (h : j ≠ k) (v : (List Job)) :
    (s.setJobs k v).jobs j = s.jobs j := by
  simp [State.jobs_setJobs, h]
@[simp] theorem State.link_setJobs (s : State) (k j : Kiosk) (v : (List Job)) : (s.setJobs k v).link j = s.link j := by
  simp only [State.link, State.setJobs, State.ctx_upd]; split <;> rfl
@[simp] theorem State.coin_setJobs (s : State) (k j : Kiosk) (v : (List Job)) : (s.setJobs k v).coin j = s.coin j := by
  simp only [State.coin, State.setJobs, State.ctx_upd]; split <;> rfl
@[simp] theorem State.cash_setJobs (s : State) (k j : Kiosk) (v : (List Job)) : (s.setJobs k v).cash j = s.cash j := by
  simp only [State.cash, State.setJobs, State.ctx_upd]; split <;> rfl
@[simp] theorem State.sess_setJobs (s : State) (k j : Kiosk) (v : (List Job)) : (s.setJobs k v).sess j = s.sess j := by
  simp only [State.sess, State.setJobs, State.ctx_upd]; split <;> rfl
@[simp] theorem State.svc_setJobs (s : State) (k j : Kiosk) (v : (List Job)) : (s.setJobs k v).svc j = s.svc j := by
  simp only [State.svc, State.setJobs, State.ctx_upd]; split <;> rfl
@[simp] theorem State.kcard_setJobs (s : State) (k j : Kiosk) (v : (List Job)) : (s.setJobs k v).kcard j = s.kcard j := by
  simp only [State.kcard, State.setJobs, State.ctx_upd]; split <;> rfl
@[simp] theorem State.disp_setJobs (s : State) (k j : Kiosk) (v : (List Job)) : (s.setJobs k v).disp j = s.disp j := by
  simp only [State.disp, State.setJobs, State.ctx_upd]; split <;> rfl
@[simp] theorem State.daily_setJobs (s : State) (k j : Kiosk) (v : (List Job)) : (s.setJobs k v).daily j = s.daily j := by
  simp only [State.daily, State.setJobs, State.ctx_upd]; split <;> rfl
@[simp] theorem State.pending_setJobs (s : State) (k : Kiosk) (v : (List Job)) : (s.setJobs k v).pending = s.pending := rfl
@[simp] theorem State.loopA_setJobs (s : State) (k : Kiosk) (v : (List Job)) : (s.setJobs k v).loopA = s.loopA := rfl
@[simp] theorem State.loopB_setJobs (s : State) (k : Kiosk) (v : (List Job)) : (s.setJobs k v).loopB = s.loopB := rfl
@[simp] theorem State.coins_setJobs (s : State) (k : Kiosk) (v : (List Job)) : (s.setJobs k v).coins = s.coins := rfl
@[simp] theorem State.tariff_setJobs (s : State) (k : Kiosk) (v : (List Job)) : (s.setJobs k v).tariff = s.tariff := rfl
@[simp] theorem State.cards_setJobs (s : State) (k : Kiosk) (v : (List Job)) : (s.setJobs k v).cards = s.cards := rfl
@[simp] theorem State.templates_setJobs (s : State) (k : Kiosk) (v : (List Job)) : (s.setJobs k v).templates = s.templates := rfl
@[simp] theorem State.settings_setJobs (s : State) (k : Kiosk) (v : (List Job)) : (s.setJobs k v).settings = s.settings := rfl
@[simp] theorem State.journal_setJobs (s : State) (k : Kiosk) (v : (List Job)) : (s.setJobs k v).journal = s.journal := rfl
@[simp] theorem State.clock_setJobs (s : State) (k : Kiosk) (v : (List Job)) : (s.setJobs k v).clock = s.clock := rfl
@[simp] theorem State.depot_setJobs (s : State) (k : Kiosk) (v : (List Job)) : (s.setJobs k v).depot = s.depot := rfl
@[simp] theorem State.loop_setJobs (s : State) (k : Kiosk) (v : (List Job)) (l : LoopId) : (s.setJobs k v).loop l = s.loop l := by
  cases l <;> rfl

@[simp] theorem State.daily_setDaily_same (s : State) (k : Kiosk) (v : Daily) : (s.setDaily k v).daily k = v := by
  simp [State.daily, State.setDaily]
theorem State.daily_setDaily (s : State) (k j : Kiosk) (v : Daily) :
    (s.setDaily k v).daily j = if j = k then v else s.daily j := by
  by_cases h : j = k <;> simp [State.daily, State.setDaily, State.ctx_upd, h]
@[simp] theorem State.daily_setDaily_ne (s : State) {k j : Kiosk} (h : j ≠ k) (v : Daily) :
    (s.setDaily k v).daily j = s.daily j := by
  simp [State.daily_setDaily, h]
@[simp] theorem State.link_setDaily (s : State) (k j : Kiosk) (v : Daily) : (s.setDaily k v).link j = s.link j := by
  simp only [State.link, State.setDaily, State.ctx_upd]; split <;> rfl
@[simp] theorem State.coin_setDaily (s : State) (k j : Kiosk) (v : Daily) : (s.setDaily k v).coin j = s.coin j := by
  simp only [State.coin, State.setDaily, State.ctx_upd]; split <;> rfl
@[simp] theorem State.cash_setDaily (s : State) (k j : Kiosk) (v : Daily) : (s.setDaily k v).cash j = s.cash j := by
  simp only [State.cash, State.setDaily, State.ctx_upd]; split <;> rfl
@[simp] theorem State.sess_setDaily (s : State) (k j : Kiosk) (v : Daily) : (s.setDaily k v).sess j = s.sess j := by
  simp only [State.sess, State.setDaily, State.ctx_upd]; split <;> rfl
@[simp] theorem State.svc_setDaily (s : State) (k j : Kiosk) (v : Daily) : (s.setDaily k v).svc j = s.svc j := by
  simp only [State.svc, State.setDaily, State.ctx_upd]; split <;> rfl
@[simp] theorem State.kcard_setDaily (s : State) (k j : Kiosk) (v : Daily) : (s.setDaily k v).kcard j = s.kcard j := by
  simp only [State.kcard, State.setDaily, State.ctx_upd]; split <;> rfl
@[simp] theorem State.disp_setDaily (s : State) (k j : Kiosk) (v : Daily) : (s.setDaily k v).disp j = s.disp j := by
  simp only [State.disp, State.setDaily, State.ctx_upd]; split <;> rfl
@[simp] theorem State.jobs_setDaily (s : State) (k j : Kiosk) (v : Daily) : (s.setDaily k v).jobs j = s.jobs j := by
  simp only [State.jobs, State.setDaily, State.ctx_upd]; split <;> rfl
@[simp] theorem State.pending_setDaily (s : State) (k : Kiosk) (v : Daily) : (s.setDaily k v).pending = s.pending := rfl
@[simp] theorem State.loopA_setDaily (s : State) (k : Kiosk) (v : Daily) : (s.setDaily k v).loopA = s.loopA := rfl
@[simp] theorem State.loopB_setDaily (s : State) (k : Kiosk) (v : Daily) : (s.setDaily k v).loopB = s.loopB := rfl
@[simp] theorem State.coins_setDaily (s : State) (k : Kiosk) (v : Daily) : (s.setDaily k v).coins = s.coins := rfl
@[simp] theorem State.tariff_setDaily (s : State) (k : Kiosk) (v : Daily) : (s.setDaily k v).tariff = s.tariff := rfl
@[simp] theorem State.cards_setDaily (s : State) (k : Kiosk) (v : Daily) : (s.setDaily k v).cards = s.cards := rfl
@[simp] theorem State.templates_setDaily (s : State) (k : Kiosk) (v : Daily) : (s.setDaily k v).templates = s.templates := rfl
@[simp] theorem State.settings_setDaily (s : State) (k : Kiosk) (v : Daily) : (s.setDaily k v).settings = s.settings := rfl
@[simp] theorem State.journal_setDaily (s : State) (k : Kiosk) (v : Daily) : (s.setDaily k v).journal = s.journal := rfl
@[simp] theorem State.clock_setDaily (s : State) (k : Kiosk) (v : Daily) : (s.setDaily k v).clock = s.clock := rfl
@[simp] theorem State.depot_setDaily (s : State) (k : Kiosk) (v : Daily) : (s.setDaily k v).depot = s.depot := rfl
@[simp] theorem State.loop_setDaily (s : State) (k : Kiosk) (v : Daily) (l : LoopId) : (s.setDaily k v).loop l = s.loop l := by
  cases l <;> rfl

/-! ### The shared fields under a change of a kiosk -/

@[simp] theorem State.pending_upd (s : State) (k : Kiosk) (f : KioskCtx → KioskCtx) : (s.upd k f).pending = s.pending := rfl
@[simp] theorem State.loopA_upd (s : State) (k : Kiosk) (f : KioskCtx → KioskCtx) : (s.upd k f).loopA = s.loopA := rfl
@[simp] theorem State.loopB_upd (s : State) (k : Kiosk) (f : KioskCtx → KioskCtx) : (s.upd k f).loopB = s.loopB := rfl
@[simp] theorem State.coins_upd (s : State) (k : Kiosk) (f : KioskCtx → KioskCtx) : (s.upd k f).coins = s.coins := rfl
@[simp] theorem State.tariff_upd (s : State) (k : Kiosk) (f : KioskCtx → KioskCtx) : (s.upd k f).tariff = s.tariff := rfl
@[simp] theorem State.cards_upd (s : State) (k : Kiosk) (f : KioskCtx → KioskCtx) : (s.upd k f).cards = s.cards := rfl
@[simp] theorem State.templates_upd (s : State) (k : Kiosk) (f : KioskCtx → KioskCtx) : (s.upd k f).templates = s.templates := rfl
@[simp] theorem State.settings_upd (s : State) (k : Kiosk) (f : KioskCtx → KioskCtx) : (s.upd k f).settings = s.settings := rfl
@[simp] theorem State.journal_upd (s : State) (k : Kiosk) (f : KioskCtx → KioskCtx) : (s.upd k f).journal = s.journal := rfl
@[simp] theorem State.clock_upd (s : State) (k : Kiosk) (f : KioskCtx → KioskCtx) : (s.upd k f).clock = s.clock := rfl
@[simp] theorem State.depot_upd (s : State) (k : Kiosk) (f : KioskCtx → KioskCtx) : (s.upd k f).depot = s.depot := rfl
@[simp] theorem State.loop_upd (s : State) (k : Kiosk) (f : KioskCtx → KioskCtx) (l : LoopId) : (s.upd k f).loop l = s.loop l := by
  cases l <;> rfl

/-! ### The contexts under a change of shared fields -/

@[simp] theorem State.ctx_shared (s : State) (k : Kiosk) (p : List Instr) (la lb : LoopCtl) (co : Vector (Option CoinEntry) 16)
    (ta : Tariff) (ca : Cards) (te : Vector (Vector (Option LineRecord) 24) 16) (se : Settings) (jo : Journal) (cl : Clock)
    (de : Depot) : (State.mk p la lb s.kiosks co ta ca te se jo cl de).ctx k = s.ctx k := rfl
@[simp] theorem State.link_shared (s : State) (k : Kiosk) (p : List Instr) (la lb : LoopCtl) (co : Vector (Option CoinEntry) 16)
    (ta : Tariff) (ca : Cards) (te : Vector (Vector (Option LineRecord) 24) 16) (se : Settings) (jo : Journal) (cl : Clock)
    (de : Depot) : (State.mk p la lb s.kiosks co ta ca te se jo cl de).link k = s.link k := rfl
@[simp] theorem State.coin_shared (s : State) (k : Kiosk) (p : List Instr) (la lb : LoopCtl) (co : Vector (Option CoinEntry) 16)
    (ta : Tariff) (ca : Cards) (te : Vector (Vector (Option LineRecord) 24) 16) (se : Settings) (jo : Journal) (cl : Clock)
    (de : Depot) : (State.mk p la lb s.kiosks co ta ca te se jo cl de).coin k = s.coin k := rfl
@[simp] theorem State.cash_shared (s : State) (k : Kiosk) (p : List Instr) (la lb : LoopCtl) (co : Vector (Option CoinEntry) 16)
    (ta : Tariff) (ca : Cards) (te : Vector (Vector (Option LineRecord) 24) 16) (se : Settings) (jo : Journal) (cl : Clock)
    (de : Depot) : (State.mk p la lb s.kiosks co ta ca te se jo cl de).cash k = s.cash k := rfl
@[simp] theorem State.sess_shared (s : State) (k : Kiosk) (p : List Instr) (la lb : LoopCtl) (co : Vector (Option CoinEntry) 16)
    (ta : Tariff) (ca : Cards) (te : Vector (Vector (Option LineRecord) 24) 16) (se : Settings) (jo : Journal) (cl : Clock)
    (de : Depot) : (State.mk p la lb s.kiosks co ta ca te se jo cl de).sess k = s.sess k := rfl
@[simp] theorem State.svc_shared (s : State) (k : Kiosk) (p : List Instr) (la lb : LoopCtl) (co : Vector (Option CoinEntry) 16)
    (ta : Tariff) (ca : Cards) (te : Vector (Vector (Option LineRecord) 24) 16) (se : Settings) (jo : Journal) (cl : Clock)
    (de : Depot) : (State.mk p la lb s.kiosks co ta ca te se jo cl de).svc k = s.svc k := rfl
@[simp] theorem State.kcard_shared (s : State) (k : Kiosk) (p : List Instr) (la lb : LoopCtl) (co : Vector (Option CoinEntry) 16)
    (ta : Tariff) (ca : Cards) (te : Vector (Vector (Option LineRecord) 24) 16) (se : Settings) (jo : Journal) (cl : Clock)
    (de : Depot) : (State.mk p la lb s.kiosks co ta ca te se jo cl de).kcard k = s.kcard k := rfl
@[simp] theorem State.disp_shared (s : State) (k : Kiosk) (p : List Instr) (la lb : LoopCtl) (co : Vector (Option CoinEntry) 16)
    (ta : Tariff) (ca : Cards) (te : Vector (Vector (Option LineRecord) 24) 16) (se : Settings) (jo : Journal) (cl : Clock)
    (de : Depot) : (State.mk p la lb s.kiosks co ta ca te se jo cl de).disp k = s.disp k := rfl
@[simp] theorem State.jobs_shared (s : State) (k : Kiosk) (p : List Instr) (la lb : LoopCtl) (co : Vector (Option CoinEntry) 16)
    (ta : Tariff) (ca : Cards) (te : Vector (Vector (Option LineRecord) 24) 16) (se : Settings) (jo : Journal) (cl : Clock)
    (de : Depot) : (State.mk p la lb s.kiosks co ta ca te se jo cl de).jobs k = s.jobs k := rfl
@[simp] theorem State.daily_shared (s : State) (k : Kiosk) (p : List Instr) (la lb : LoopCtl) (co : Vector (Option CoinEntry) 16)
    (ta : Tariff) (ca : Cards) (te : Vector (Vector (Option LineRecord) 24) 16) (se : Settings) (jo : Journal) (cl : Clock)
    (de : Depot) : (State.mk p la lb s.kiosks co ta ca te se jo cl de).daily k = s.daily k := rfl

/-! ### Loops -/

@[simp] theorem State.loop_setLoop_same (s : State) (l : LoopId) (c : LoopCtl) : (s.setLoop l c).loop l = c := by cases l <;> rfl
theorem State.loop_setLoop (s : State) (l m : LoopId) (c : LoopCtl) :
    (s.setLoop l c).loop m = if m = l then c else s.loop m := by cases l <;> cases m <;> rfl
@[simp] theorem State.loop_setLoop_ne (s : State) {l m : LoopId} (h : m ≠ l) (c : LoopCtl) : (s.setLoop l c).loop m = s.loop m := by
  simp [State.loop_setLoop, h]
@[simp] theorem State.ctx_setLoop (s : State) (l : LoopId) (c : LoopCtl) (k : Kiosk) : (s.setLoop l c).ctx k = s.ctx k := by cases l <;> rfl
@[simp] theorem State.link_setLoop (s : State) (l : LoopId) (c : LoopCtl) (k : Kiosk) : (s.setLoop l c).link k = s.link k := by cases l <;> rfl
@[simp] theorem State.coin_setLoop (s : State) (l : LoopId) (c : LoopCtl) (k : Kiosk) : (s.setLoop l c).coin k = s.coin k := by cases l <;> rfl
@[simp] theorem State.cash_setLoop (s : State) (l : LoopId) (c : LoopCtl) (k : Kiosk) : (s.setLoop l c).cash k = s.cash k := by cases l <;> rfl
@[simp] theorem State.sess_setLoop (s : State) (l : LoopId) (c : LoopCtl) (k : Kiosk) : (s.setLoop l c).sess k = s.sess k := by cases l <;> rfl
@[simp] theorem State.svc_setLoop (s : State) (l : LoopId) (c : LoopCtl) (k : Kiosk) : (s.setLoop l c).svc k = s.svc k := by cases l <;> rfl
@[simp] theorem State.kcard_setLoop (s : State) (l : LoopId) (c : LoopCtl) (k : Kiosk) : (s.setLoop l c).kcard k = s.kcard k := by cases l <;> rfl
@[simp] theorem State.disp_setLoop (s : State) (l : LoopId) (c : LoopCtl) (k : Kiosk) : (s.setLoop l c).disp k = s.disp k := by cases l <;> rfl
@[simp] theorem State.jobs_setLoop (s : State) (l : LoopId) (c : LoopCtl) (k : Kiosk) : (s.setLoop l c).jobs k = s.jobs k := by cases l <;> rfl
@[simp] theorem State.daily_setLoop (s : State) (l : LoopId) (c : LoopCtl) (k : Kiosk) : (s.setLoop l c).daily k = s.daily k := by cases l <;> rfl
@[simp] theorem State.pending_setLoop (s : State) (l : LoopId) (c : LoopCtl) : (s.setLoop l c).pending = s.pending := by cases l <;> rfl
@[simp] theorem State.coins_setLoop (s : State) (l : LoopId) (c : LoopCtl) : (s.setLoop l c).coins = s.coins := by cases l <;> rfl
@[simp] theorem State.tariff_setLoop (s : State) (l : LoopId) (c : LoopCtl) : (s.setLoop l c).tariff = s.tariff := by cases l <;> rfl
@[simp] theorem State.cards_setLoop (s : State) (l : LoopId) (c : LoopCtl) : (s.setLoop l c).cards = s.cards := by cases l <;> rfl
@[simp] theorem State.templates_setLoop (s : State) (l : LoopId) (c : LoopCtl) : (s.setLoop l c).templates = s.templates := by cases l <;> rfl
@[simp] theorem State.settings_setLoop (s : State) (l : LoopId) (c : LoopCtl) : (s.setLoop l c).settings = s.settings := by cases l <;> rfl
@[simp] theorem State.journal_setLoop (s : State) (l : LoopId) (c : LoopCtl) : (s.setLoop l c).journal = s.journal := by cases l <;> rfl
@[simp] theorem State.clock_setLoop (s : State) (l : LoopId) (c : LoopCtl) : (s.setLoop l c).clock = s.clock := by cases l <;> rfl
@[simp] theorem State.depot_setLoop (s : State) (l : LoopId) (c : LoopCtl) : (s.setLoop l c).depot = s.depot := by cases l <;> rfl

/-! ### The pending set -/

@[simp] theorem ctx_raise (e : EventKind) (n : Option Kiosk) (s : State) (k : Kiosk) : (raise e n s).ctx k = s.ctx k := rfl
@[simp] theorem link_raise (e : EventKind) (n : Option Kiosk) (s : State) (k : Kiosk) : (raise e n s).link k = s.link k := rfl
@[simp] theorem coin_raise (e : EventKind) (n : Option Kiosk) (s : State) (k : Kiosk) : (raise e n s).coin k = s.coin k := rfl
@[simp] theorem cash_raise (e : EventKind) (n : Option Kiosk) (s : State) (k : Kiosk) : (raise e n s).cash k = s.cash k := rfl
@[simp] theorem sess_raise (e : EventKind) (n : Option Kiosk) (s : State) (k : Kiosk) : (raise e n s).sess k = s.sess k := rfl
@[simp] theorem svc_raise (e : EventKind) (n : Option Kiosk) (s : State) (k : Kiosk) : (raise e n s).svc k = s.svc k := rfl
@[simp] theorem kcard_raise (e : EventKind) (n : Option Kiosk) (s : State) (k : Kiosk) : (raise e n s).kcard k = s.kcard k := rfl
@[simp] theorem disp_raise (e : EventKind) (n : Option Kiosk) (s : State) (k : Kiosk) : (raise e n s).disp k = s.disp k := rfl
@[simp] theorem jobs_raise (e : EventKind) (n : Option Kiosk) (s : State) (k : Kiosk) : (raise e n s).jobs k = s.jobs k := rfl
@[simp] theorem daily_raise (e : EventKind) (n : Option Kiosk) (s : State) (k : Kiosk) : (raise e n s).daily k = s.daily k := rfl
@[simp] theorem pending_raise (e : EventKind) (n : Option Kiosk) (s : State) : (raise e n s).pending = s.pending := rfl
@[simp] theorem loopA_raise (e : EventKind) (n : Option Kiosk) (s : State) : (raise e n s).loopA = s.loopA := rfl
@[simp] theorem loopB_raise (e : EventKind) (n : Option Kiosk) (s : State) : (raise e n s).loopB = s.loopB := rfl
@[simp] theorem coins_raise (e : EventKind) (n : Option Kiosk) (s : State) : (raise e n s).coins = s.coins := rfl
@[simp] theorem tariff_raise (e : EventKind) (n : Option Kiosk) (s : State) : (raise e n s).tariff = s.tariff := rfl
@[simp] theorem cards_raise (e : EventKind) (n : Option Kiosk) (s : State) : (raise e n s).cards = s.cards := rfl
@[simp] theorem templates_raise (e : EventKind) (n : Option Kiosk) (s : State) : (raise e n s).templates = s.templates := rfl
@[simp] theorem settings_raise (e : EventKind) (n : Option Kiosk) (s : State) : (raise e n s).settings = s.settings := rfl
@[simp] theorem journal_raise (e : EventKind) (n : Option Kiosk) (s : State) : (raise e n s).journal = s.journal := rfl
@[simp] theorem clock_raise (e : EventKind) (n : Option Kiosk) (s : State) : (raise e n s).clock = s.clock := rfl
@[simp] theorem loop_raise (e : EventKind) (n : Option Kiosk) (s : State) (l : LoopId) : (raise e n s).loop l = s.loop l := by cases l <;> rfl
@[simp] theorem depot_station_raise (e : EventKind) (n : Option Kiosk) (s : State) : (raise e n s).depot.station = s.depot.station := rfl
@[simp] theorem depot_link_raise (e : EventKind) (n : Option Kiosk) (s : State) : (raise e n s).depot.link = s.depot.link := rfl
@[simp] theorem depot_linkTimerMs_raise (e : EventKind) (n : Option Kiosk) (s : State) : (raise e n s).depot.linkTimerMs = s.depot.linkTimerMs := rfl
@[simp] theorem depot_cause_raise (e : EventKind) (n : Option Kiosk) (s : State) : (raise e n s).depot.cause = s.depot.cause := rfl
@[simp] theorem depot_mode_raise (e : EventKind) (n : Option Kiosk) (s : State) : (raise e n s).depot.mode = s.depot.mode := rfl
@[simp] theorem depot_unmasked_raise (e : EventKind) (n : Option Kiosk) (s : State) : (raise e n s).depot.unmasked = s.depot.unmasked := rfl
@[simp] theorem depot_reply_raise (e : EventKind) (n : Option Kiosk) (s : State) : (raise e n s).depot.reply = s.depot.reply := rfl
@[simp] theorem depot_restartOwed_raise (e : EventKind) (n : Option Kiosk) (s : State) : (raise e n s).depot.restartOwed = s.depot.restartOwed := rfl

@[simp] theorem ctx_clearEvent (e : EventKind) (s : State) (k : Kiosk) : (clearEvent e s).ctx k = s.ctx k := rfl
@[simp] theorem link_clearEvent (e : EventKind) (s : State) (k : Kiosk) : (clearEvent e s).link k = s.link k := rfl
@[simp] theorem coin_clearEvent (e : EventKind) (s : State) (k : Kiosk) : (clearEvent e s).coin k = s.coin k := rfl
@[simp] theorem cash_clearEvent (e : EventKind) (s : State) (k : Kiosk) : (clearEvent e s).cash k = s.cash k := rfl
@[simp] theorem sess_clearEvent (e : EventKind) (s : State) (k : Kiosk) : (clearEvent e s).sess k = s.sess k := rfl
@[simp] theorem svc_clearEvent (e : EventKind) (s : State) (k : Kiosk) : (clearEvent e s).svc k = s.svc k := rfl
@[simp] theorem kcard_clearEvent (e : EventKind) (s : State) (k : Kiosk) : (clearEvent e s).kcard k = s.kcard k := rfl
@[simp] theorem disp_clearEvent (e : EventKind) (s : State) (k : Kiosk) : (clearEvent e s).disp k = s.disp k := rfl
@[simp] theorem jobs_clearEvent (e : EventKind) (s : State) (k : Kiosk) : (clearEvent e s).jobs k = s.jobs k := rfl
@[simp] theorem daily_clearEvent (e : EventKind) (s : State) (k : Kiosk) : (clearEvent e s).daily k = s.daily k := rfl
@[simp] theorem pending_clearEvent (e : EventKind) (s : State) : (clearEvent e s).pending = s.pending := rfl
@[simp] theorem loopA_clearEvent (e : EventKind) (s : State) : (clearEvent e s).loopA = s.loopA := rfl
@[simp] theorem loopB_clearEvent (e : EventKind) (s : State) : (clearEvent e s).loopB = s.loopB := rfl
@[simp] theorem coins_clearEvent (e : EventKind) (s : State) : (clearEvent e s).coins = s.coins := rfl
@[simp] theorem tariff_clearEvent (e : EventKind) (s : State) : (clearEvent e s).tariff = s.tariff := rfl
@[simp] theorem cards_clearEvent (e : EventKind) (s : State) : (clearEvent e s).cards = s.cards := rfl
@[simp] theorem templates_clearEvent (e : EventKind) (s : State) : (clearEvent e s).templates = s.templates := rfl
@[simp] theorem settings_clearEvent (e : EventKind) (s : State) : (clearEvent e s).settings = s.settings := rfl
@[simp] theorem journal_clearEvent (e : EventKind) (s : State) : (clearEvent e s).journal = s.journal := rfl
@[simp] theorem clock_clearEvent (e : EventKind) (s : State) : (clearEvent e s).clock = s.clock := rfl
@[simp] theorem loop_clearEvent (e : EventKind) (s : State) (l : LoopId) : (clearEvent e s).loop l = s.loop l := by cases l <;> rfl
@[simp] theorem depot_station_clearEvent (e : EventKind) (s : State) : (clearEvent e s).depot.station = s.depot.station := rfl
@[simp] theorem depot_link_clearEvent (e : EventKind) (s : State) : (clearEvent e s).depot.link = s.depot.link := rfl
@[simp] theorem depot_linkTimerMs_clearEvent (e : EventKind) (s : State) : (clearEvent e s).depot.linkTimerMs = s.depot.linkTimerMs := rfl
@[simp] theorem depot_cause_clearEvent (e : EventKind) (s : State) : (clearEvent e s).depot.cause = s.depot.cause := rfl
@[simp] theorem depot_mode_clearEvent (e : EventKind) (s : State) : (clearEvent e s).depot.mode = s.depot.mode := rfl
@[simp] theorem depot_unmasked_clearEvent (e : EventKind) (s : State) : (clearEvent e s).depot.unmasked = s.depot.unmasked := rfl
@[simp] theorem depot_reply_clearEvent (e : EventKind) (s : State) : (clearEvent e s).depot.reply = s.depot.reply := rfl
@[simp] theorem depot_restartOwed_clearEvent (e : EventKind) (s : State) : (clearEvent e s).depot.restartOwed = s.depot.restartOwed := rfl

@[simp] theorem ctx_clearAllEvents  (s : State) (k : Kiosk) : (clearAllEvents s).ctx k = s.ctx k := rfl
@[simp] theorem link_clearAllEvents  (s : State) (k : Kiosk) : (clearAllEvents s).link k = s.link k := rfl
@[simp] theorem coin_clearAllEvents  (s : State) (k : Kiosk) : (clearAllEvents s).coin k = s.coin k := rfl
@[simp] theorem cash_clearAllEvents  (s : State) (k : Kiosk) : (clearAllEvents s).cash k = s.cash k := rfl
@[simp] theorem sess_clearAllEvents  (s : State) (k : Kiosk) : (clearAllEvents s).sess k = s.sess k := rfl
@[simp] theorem svc_clearAllEvents  (s : State) (k : Kiosk) : (clearAllEvents s).svc k = s.svc k := rfl
@[simp] theorem kcard_clearAllEvents  (s : State) (k : Kiosk) : (clearAllEvents s).kcard k = s.kcard k := rfl
@[simp] theorem disp_clearAllEvents  (s : State) (k : Kiosk) : (clearAllEvents s).disp k = s.disp k := rfl
@[simp] theorem jobs_clearAllEvents  (s : State) (k : Kiosk) : (clearAllEvents s).jobs k = s.jobs k := rfl
@[simp] theorem daily_clearAllEvents  (s : State) (k : Kiosk) : (clearAllEvents s).daily k = s.daily k := rfl
@[simp] theorem pending_clearAllEvents  (s : State) : (clearAllEvents s).pending = s.pending := rfl
@[simp] theorem loopA_clearAllEvents  (s : State) : (clearAllEvents s).loopA = s.loopA := rfl
@[simp] theorem loopB_clearAllEvents  (s : State) : (clearAllEvents s).loopB = s.loopB := rfl
@[simp] theorem coins_clearAllEvents  (s : State) : (clearAllEvents s).coins = s.coins := rfl
@[simp] theorem tariff_clearAllEvents  (s : State) : (clearAllEvents s).tariff = s.tariff := rfl
@[simp] theorem cards_clearAllEvents  (s : State) : (clearAllEvents s).cards = s.cards := rfl
@[simp] theorem templates_clearAllEvents  (s : State) : (clearAllEvents s).templates = s.templates := rfl
@[simp] theorem settings_clearAllEvents  (s : State) : (clearAllEvents s).settings = s.settings := rfl
@[simp] theorem journal_clearAllEvents  (s : State) : (clearAllEvents s).journal = s.journal := rfl
@[simp] theorem clock_clearAllEvents  (s : State) : (clearAllEvents s).clock = s.clock := rfl
@[simp] theorem loop_clearAllEvents  (s : State) (l : LoopId) : (clearAllEvents s).loop l = s.loop l := by cases l <;> rfl
@[simp] theorem depot_station_clearAllEvents  (s : State) : (clearAllEvents s).depot.station = s.depot.station := rfl
@[simp] theorem depot_link_clearAllEvents  (s : State) : (clearAllEvents s).depot.link = s.depot.link := rfl
@[simp] theorem depot_linkTimerMs_clearAllEvents  (s : State) : (clearAllEvents s).depot.linkTimerMs = s.depot.linkTimerMs := rfl
@[simp] theorem depot_cause_clearAllEvents  (s : State) : (clearAllEvents s).depot.cause = s.depot.cause := rfl
@[simp] theorem depot_mode_clearAllEvents  (s : State) : (clearAllEvents s).depot.mode = s.depot.mode := rfl
@[simp] theorem depot_unmasked_clearAllEvents  (s : State) : (clearAllEvents s).depot.unmasked = s.depot.unmasked := rfl
@[simp] theorem depot_reply_clearAllEvents  (s : State) : (clearAllEvents s).depot.reply = s.depot.reply := rfl
@[simp] theorem depot_restartOwed_clearAllEvents  (s : State) : (clearAllEvents s).depot.restartOwed = s.depot.restartOwed := rfl

/-- The numbers of two kinds differ where the kinds do (Table 11-7). -/
theorem EventKind.no_inj {e f : EventKind} : e.no = f.no ↔ e = f := by
  cases e <;> cases f <;> simp [EventKind.no]

/-- A raised kind is pending, and no other kind changes (R184). -/
theorem events_raise (e f : EventKind) (n : Option Kiosk) (s : State) :
    (raise e n s).depot.events[f.no] =
      if f = e then
        { on := true, kiosks := match n with | some k => insertKiosk k (s.depot.events[e.no]).kiosks | none => (s.depot.events[e.no]).kiosks }
      else s.depot.events[f.no] := by
  by_cases h : f = e
  · subst h; cases n <;> simp [raise]
  · have h1 : e.no ≠ f.no := fun x => h (EventKind.no_inj.mp x).symm
    have h2 : e.no.val ≠ f.no.val := fun x => h1 (Fin.ext x)
    simp [raise, h, h2]

/-- A kiosk that joins a kiosk set is in it, with all that was. -/
theorem mem_insertKiosk (k j : Kiosk) (l : List Kiosk) : j ∈ insertKiosk k l ↔ j = k ∨ j ∈ l := by
  induction l with
  | nil => simp [insertKiosk]
  | cons x xs ih =>
    unfold insertKiosk
    split
    · rename_i h; subst h; simp
    · split
      · simp
      · simp [ih]; tauto

end Sys2Proof.Machine
end

