-- ==== Sys2Proof/Laws/Display.lean ====
section
/-! SUPPORT. What an offer of a command and a change of the display leave alone: an offer changes the kiosk's queue
and held slots only (R12–R14), and a display change that kiosk's display record besides (R100). -/

namespace Sys2Proof.Machine

/-! ### The queue of a link part -/

theorem KLink.offerHeld_fields (l : KLink) (c : Cmd) (hold : KLink → KLink)
    (h : ∃ (d : Option (Option Display)) (i : Option (Option InletState)), ∀ x : KLink, hold x = { x with heldShow := d.getD x.heldShow, heldInlet := i.getD x.heldInlet }) :
    ∃ q d i, l.offerHeld c hold = { l with queue := q, heldShow := d, heldInlet := i } := by
  obtain ⟨d, i, hh⟩ := h
  unfold KLink.offerHeld
  split
  · exact ⟨_, _, _, rfl⟩
  · exact ⟨_, _, _, rfl⟩
  · exact ⟨l.queue, _, _, by rw [hh]⟩

/-- An offer changes a link part in its queue and held slots only (R12, R13). -/
theorem KLink.offer_fields (l : KLink) (c : Cmd) :
    ∃ q d i, (l.offer c).1 = { l with queue := q, heldShow := d, heldInlet := i } := by
  unfold KLink.offer
  split
  · split
    · exact KLink.offerHeld_fields l _ _ ⟨some (some _), none, fun x => rfl⟩
    · exact KLink.offerHeld_fields l _ _ ⟨none, some (some _), fun x => rfl⟩
    · split
      · exact ⟨_, _, _, rfl⟩
      · exact ⟨_, _, _, rfl⟩
  · exact ⟨_, _, _, rfl⟩

/-- An offer to a kiosk that is not PRESENT changes nothing (R12). -/
theorem KLink.offer_absent {l : KLink} (h : l.state ≠ .present) (c : Cmd) : l.offer c = (l, .absent) := by
  simp [KLink.offer, h]

/-! ### offer -/

@[simp] theorem offer_pending (k : Kiosk) (c : Cmd) (s : State) : ((offer k c s).1).pending = s.pending := by
  simp [offer]
@[simp] theorem offer_loopA (k : Kiosk) (c : Cmd) (s : State) : ((offer k c s).1).loopA = s.loopA := by
  simp [offer]
@[simp] theorem offer_loopB (k : Kiosk) (c : Cmd) (s : State) : ((offer k c s).1).loopB = s.loopB := by
  simp [offer]
@[simp] theorem offer_coins (k : Kiosk) (c : Cmd) (s : State) : ((offer k c s).1).coins = s.coins := by
  simp [offer]
@[simp] theorem offer_tariff (k : Kiosk) (c : Cmd) (s : State) : ((offer k c s).1).tariff = s.tariff := by
  simp [offer]
@[simp] theorem offer_cards (k : Kiosk) (c : Cmd) (s : State) : ((offer k c s).1).cards = s.cards := by
  simp [offer]
@[simp] theorem offer_templates (k : Kiosk) (c : Cmd) (s : State) : ((offer k c s).1).templates = s.templates := by
  simp [offer]
@[simp] theorem offer_settings (k : Kiosk) (c : Cmd) (s : State) : ((offer k c s).1).settings = s.settings := by
  simp [offer]
@[simp] theorem offer_journal (k : Kiosk) (c : Cmd) (s : State) : ((offer k c s).1).journal = s.journal := by
  simp [offer]
@[simp] theorem offer_clock (k : Kiosk) (c : Cmd) (s : State) : ((offer k c s).1).clock = s.clock := by
  simp [offer]
@[simp] theorem offer_depot (k : Kiosk) (c : Cmd) (s : State) : ((offer k c s).1).depot = s.depot := by
  simp [offer]
@[simp] theorem offer_loop (k : Kiosk) (c : Cmd) (s : State) (l : LoopId) : ((offer k c s).1).loop l = s.loop l := by cases l <;> simp [State.loop]
@[simp] theorem offer_coin (k : Kiosk) (c : Cmd) (s : State) (j : Kiosk) : ((offer k c s).1).coin j = s.coin j := by
  simp [offer]
@[simp] theorem offer_cash (k : Kiosk) (c : Cmd) (s : State) (j : Kiosk) : ((offer k c s).1).cash j = s.cash j := by
  simp [offer]
@[simp] theorem offer_sess (k : Kiosk) (c : Cmd) (s : State) (j : Kiosk) : ((offer k c s).1).sess j = s.sess j := by
  simp [offer]
@[simp] theorem offer_svc (k : Kiosk) (c : Cmd) (s : State) (j : Kiosk) : ((offer k c s).1).svc j = s.svc j := by
  simp [offer]
@[simp] theorem offer_kcard (k : Kiosk) (c : Cmd) (s : State) (j : Kiosk) : ((offer k c s).1).kcard j = s.kcard j := by
  simp [offer]
@[simp] theorem offer_jobs (k : Kiosk) (c : Cmd) (s : State) (j : Kiosk) : ((offer k c s).1).jobs j = s.jobs j := by
  simp [offer]
@[simp] theorem offer_daily (k : Kiosk) (c : Cmd) (s : State) (j : Kiosk) : ((offer k c s).1).daily j = s.daily j := by
  simp [offer]
@[simp] theorem offer_disp (k : Kiosk) (c : Cmd) (s : State) (j : Kiosk) : ((offer k c s).1).disp j = s.disp j := by simp [offer]
@[simp] theorem offer_link_ne (k : Kiosk) (c : Cmd) (s : State) {j : Kiosk} (h : j ≠ k) : ((offer k c s).1).link j = s.link j := by simp [offer, h]
theorem offer_link_same (k : Kiosk) (c : Cmd) (s : State) : ((offer k c s).1).link k = ((s.link k).offer c).1 := by simp [offer]
@[simp] theorem offer_link_state (k : Kiosk) (c : Cmd) (s : State) (j : Kiosk) : (((offer k c s).1).link j).state = (s.link j).state := by
  by_cases h : j = k
  · subst h; obtain ⟨q, d, i, e⟩ := KLink.offer_fields (s.link j) c; simp [offer_link_same, e]
  · simp [h]
@[simp] theorem offer_link_missCount (k : Kiosk) (c : Cmd) (s : State) (j : Kiosk) : (((offer k c s).1).link j).missCount = (s.link j).missCount := by
  by_cases h : j = k
  · subst h; obtain ⟨q, d, i, e⟩ := KLink.offer_fields (s.link j) c; simp [offer_link_same, e]
  · simp [h]
@[simp] theorem offer_link_pollNumber (k : Kiosk) (c : Cmd) (s : State) (j : Kiosk) : (((offer k c s).1).link j).pollNumber = (s.link j).pollNumber := by
  by_cases h : j = k
  · subst h; obtain ⟨q, d, i, e⟩ := KLink.offer_fields (s.link j) c; simp [offer_link_same, e]
  · simp [h]
@[simp] theorem offer_link_resyncPending (k : Kiosk) (c : Cmd) (s : State) (j : Kiosk) : (((offer k c s).1).link j).resyncPending = (s.link j).resyncPending := by
  by_cases h : j = k
  · subst h; obtain ⟨q, d, i, e⟩ := KLink.offer_fields (s.link j) c; simp [offer_link_same, e]
  · simp [h]
@[simp] theorem offer_link_lastToggle (k : Kiosk) (c : Cmd) (s : State) (j : Kiosk) : (((offer k c s).1).link j).lastToggle = (s.link j).lastToggle := by
  by_cases h : j = k
  · subst h; obtain ⟨q, d, i, e⟩ := KLink.offer_fields (s.link j) c; simp [offer_link_same, e]
  · simp [h]
@[simp] theorem offer_link_firstStatusPending (k : Kiosk) (c : Cmd) (s : State) (j : Kiosk) : (((offer k c s).1).link j).firstStatusPending = (s.link j).firstStatusPending := by
  by_cases h : j = k
  · subst h; obtain ⟨q, d, i, e⟩ := KLink.offer_fields (s.link j) c; simp [offer_link_same, e]
  · simp [h]
@[simp] theorem offer_link_door (k : Kiosk) (c : Cmd) (s : State) (j : Kiosk) : (((offer k c s).1).link j).door = (s.link j).door := by
  by_cases h : j = k
  · subst h; obtain ⟨q, d, i, e⟩ := KLink.offer_fields (s.link j) c; simp [offer_link_same, e]
  · simp [h]
@[simp] theorem offer_link_cashbox (k : Kiosk) (c : Cmd) (s : State) (j : Kiosk) : (((offer k c s).1).link j).cashbox = (s.link j).cashbox := by
  by_cases h : j = k
  · subst h; obtain ⟨q, d, i, e⟩ := KLink.offer_fields (s.link j) c; simp [offer_link_same, e]
  · simp [h]
@[simp] theorem offer_link_paper (k : Kiosk) (c : Cmd) (s : State) (j : Kiosk) : (((offer k c s).1).link j).paper = (s.link j).paper := by
  by_cases h : j = k
  · subst h; obtain ⟨q, d, i, e⟩ := KLink.offer_fields (s.link j) c; simp [offer_link_same, e]
  · simp [h]
@[simp] theorem offer_link_service (k : Kiosk) (c : Cmd) (s : State) (j : Kiosk) : (((offer k c s).1).link j).service = (s.link j).service := by
  by_cases h : j = k
  · subst h; obtain ⟨q, d, i, e⟩ := KLink.offer_fields (s.link j) c; simp [offer_link_same, e]
  · simp [h]
@[simp] theorem offer_link_doorReport (k : Kiosk) (c : Cmd) (s : State) (j : Kiosk) : (((offer k c s).1).link j).doorReport = (s.link j).doorReport := by
  by_cases h : j = k
  · subst h; obtain ⟨q, d, i, e⟩ := KLink.offer_fields (s.link j) c; simp [offer_link_same, e]
  · simp [h]
/-! ### rewriteCmd -/

@[simp] theorem rewriteCmd_pending (k : Kiosk) (c : Cmd) (s : State) : (rewriteCmd k c s).pending = s.pending := by
  simp [rewriteCmd]
@[simp] theorem rewriteCmd_loopA (k : Kiosk) (c : Cmd) (s : State) : (rewriteCmd k c s).loopA = s.loopA := by
  simp [rewriteCmd]
@[simp] theorem rewriteCmd_loopB (k : Kiosk) (c : Cmd) (s : State) : (rewriteCmd k c s).loopB = s.loopB := by
  simp [rewriteCmd]
@[simp] theorem rewriteCmd_coins (k : Kiosk) (c : Cmd) (s : State) : (rewriteCmd k c s).coins = s.coins := by
  simp [rewriteCmd]
@[simp] theorem rewriteCmd_tariff (k : Kiosk) (c : Cmd) (s : State) : (rewriteCmd k c s).tariff = s.tariff := by
  simp [rewriteCmd]
@[simp] theorem rewriteCmd_cards (k : Kiosk) (c : Cmd) (s : State) : (rewriteCmd k c s).cards = s.cards := by
  simp [rewriteCmd]
@[simp] theorem rewriteCmd_templates (k : Kiosk) (c : Cmd) (s : State) : (rewriteCmd k c s).templates = s.templates := by
  simp [rewriteCmd]
@[simp] theorem rewriteCmd_settings (k : Kiosk) (c : Cmd) (s : State) : (rewriteCmd k c s).settings = s.settings := by
  simp [rewriteCmd]
@[simp] theorem rewriteCmd_journal (k : Kiosk) (c : Cmd) (s : State) : (rewriteCmd k c s).journal = s.journal := by
  simp [rewriteCmd]
@[simp] theorem rewriteCmd_clock (k : Kiosk) (c : Cmd) (s : State) : (rewriteCmd k c s).clock = s.clock := by
  simp [rewriteCmd]
@[simp] theorem rewriteCmd_depot (k : Kiosk) (c : Cmd) (s : State) : (rewriteCmd k c s).depot = s.depot := by
  simp [rewriteCmd]
@[simp] theorem rewriteCmd_loop (k : Kiosk) (c : Cmd) (s : State) (l : LoopId) : (rewriteCmd k c s).loop l = s.loop l := by cases l <;> simp [State.loop]
@[simp] theorem rewriteCmd_coin (k : Kiosk) (c : Cmd) (s : State) (j : Kiosk) : (rewriteCmd k c s).coin j = s.coin j := by
  simp [rewriteCmd]
@[simp] theorem rewriteCmd_cash (k : Kiosk) (c : Cmd) (s : State) (j : Kiosk) : (rewriteCmd k c s).cash j = s.cash j := by
  simp [rewriteCmd]
@[simp] theorem rewriteCmd_sess (k : Kiosk) (c : Cmd) (s : State) (j : Kiosk) : (rewriteCmd k c s).sess j = s.sess j := by
  simp [rewriteCmd]
@[simp] theorem rewriteCmd_svc (k : Kiosk) (c : Cmd) (s : State) (j : Kiosk) : (rewriteCmd k c s).svc j = s.svc j := by
  simp [rewriteCmd]
@[simp] theorem rewriteCmd_kcard (k : Kiosk) (c : Cmd) (s : State) (j : Kiosk) : (rewriteCmd k c s).kcard j = s.kcard j := by
  simp [rewriteCmd]
@[simp] theorem rewriteCmd_jobs (k : Kiosk) (c : Cmd) (s : State) (j : Kiosk) : (rewriteCmd k c s).jobs j = s.jobs j := by
  simp [rewriteCmd]
@[simp] theorem rewriteCmd_daily (k : Kiosk) (c : Cmd) (s : State) (j : Kiosk) : (rewriteCmd k c s).daily j = s.daily j := by
  simp [rewriteCmd]
@[simp] theorem rewriteCmd_disp (k : Kiosk) (c : Cmd) (s : State) (j : Kiosk) : (rewriteCmd k c s).disp j = s.disp j := by simp [rewriteCmd]
@[simp] theorem rewriteCmd_link_ne (k : Kiosk) (c : Cmd) (s : State) {j : Kiosk} (h : j ≠ k) : (rewriteCmd k c s).link j = s.link j := by simp [rewriteCmd, h]
@[simp] theorem rewriteCmd_link_state (k : Kiosk) (c : Cmd) (s : State) (j : Kiosk) : ((rewriteCmd k c s).link j).state = (s.link j).state := by
  by_cases h : j = k
  · subst h; simp [rewriteCmd, KLink.rewrite]
  · simp [h]
@[simp] theorem rewriteCmd_link_missCount (k : Kiosk) (c : Cmd) (s : State) (j : Kiosk) : ((rewriteCmd k c s).link j).missCount = (s.link j).missCount := by
  by_cases h : j = k
  · subst h; simp [rewriteCmd, KLink.rewrite]
  · simp [h]
@[simp] theorem rewriteCmd_link_pollNumber (k : Kiosk) (c : Cmd) (s : State) (j : Kiosk) : ((rewriteCmd k c s).link j).pollNumber = (s.link j).pollNumber := by
  by_cases h : j = k
  · subst h; simp [rewriteCmd, KLink.rewrite]
  · simp [h]
@[simp] theorem rewriteCmd_link_resyncPending (k : Kiosk) (c : Cmd) (s : State) (j : Kiosk) : ((rewriteCmd k c s).link j).resyncPending = (s.link j).resyncPending := by
  by_cases h : j = k
  · subst h; simp [rewriteCmd, KLink.rewrite]
  · simp [h]
@[simp] theorem rewriteCmd_link_lastToggle (k : Kiosk) (c : Cmd) (s : State) (j : Kiosk) : ((rewriteCmd k c s).link j).lastToggle = (s.link j).lastToggle := by
  by_cases h : j = k
  · subst h; simp [rewriteCmd, KLink.rewrite]
  · simp [h]
@[simp] theorem rewriteCmd_link_firstStatusPending (k : Kiosk) (c : Cmd) (s : State) (j : Kiosk) : ((rewriteCmd k c s).link j).firstStatusPending = (s.link j).firstStatusPending := by
  by_cases h : j = k
  · subst h; simp [rewriteCmd, KLink.rewrite]
  · simp [h]
@[simp] theorem rewriteCmd_link_door (k : Kiosk) (c : Cmd) (s : State) (j : Kiosk) : ((rewriteCmd k c s).link j).door = (s.link j).door := by
  by_cases h : j = k
  · subst h; simp [rewriteCmd, KLink.rewrite]
  · simp [h]
@[simp] theorem rewriteCmd_link_cashbox (k : Kiosk) (c : Cmd) (s : State) (j : Kiosk) : ((rewriteCmd k c s).link j).cashbox = (s.link j).cashbox := by
  by_cases h : j = k
  · subst h; simp [rewriteCmd, KLink.rewrite]
  · simp [h]
@[simp] theorem rewriteCmd_link_paper (k : Kiosk) (c : Cmd) (s : State) (j : Kiosk) : ((rewriteCmd k c s).link j).paper = (s.link j).paper := by
  by_cases h : j = k
  · subst h; simp [rewriteCmd, KLink.rewrite]
  · simp [h]
@[simp] theorem rewriteCmd_link_service (k : Kiosk) (c : Cmd) (s : State) (j : Kiosk) : ((rewriteCmd k c s).link j).service = (s.link j).service := by
  by_cases h : j = k
  · subst h; simp [rewriteCmd, KLink.rewrite]
  · simp [h]
@[simp] theorem rewriteCmd_link_doorReport (k : Kiosk) (c : Cmd) (s : State) (j : Kiosk) : ((rewriteCmd k c s).link j).doorReport = (s.link j).doorReport := by
  by_cases h : j = k
  · subst h; simp [rewriteCmd, KLink.rewrite]
  · simp [h]
/-! ### offerShow -/

@[simp] theorem offerShow_pending (k : Kiosk) (s : State) : (offerShow k s).pending = s.pending := by
  simp [offerShow]
@[simp] theorem offerShow_loopA (k : Kiosk) (s : State) : (offerShow k s).loopA = s.loopA := by
  simp [offerShow]
@[simp] theorem offerShow_loopB (k : Kiosk) (s : State) : (offerShow k s).loopB = s.loopB := by
  simp [offerShow]
@[simp] theorem offerShow_coins (k : Kiosk) (s : State) : (offerShow k s).coins = s.coins := by
  simp [offerShow]
@[simp] theorem offerShow_tariff (k : Kiosk) (s : State) : (offerShow k s).tariff = s.tariff := by
  simp [offerShow]
@[simp] theorem offerShow_cards (k : Kiosk) (s : State) : (offerShow k s).cards = s.cards := by
  simp [offerShow]
@[simp] theorem offerShow_templates (k : Kiosk) (s : State) : (offerShow k s).templates = s.templates := by
  simp [offerShow]
@[simp] theorem offerShow_settings (k : Kiosk) (s : State) : (offerShow k s).settings = s.settings := by
  simp [offerShow]
@[simp] theorem offerShow_journal (k : Kiosk) (s : State) : (offerShow k s).journal = s.journal := by
  simp [offerShow]
@[simp] theorem offerShow_clock (k : Kiosk) (s : State) : (offerShow k s).clock = s.clock := by
  simp [offerShow]
@[simp] theorem offerShow_depot (k : Kiosk) (s : State) : (offerShow k s).depot = s.depot := by
  simp [offerShow]
@[simp] theorem offerShow_loop (k : Kiosk) (s : State) (l : LoopId) : (offerShow k s).loop l = s.loop l := by cases l <;> simp [State.loop]
@[simp] theorem offerShow_coin (k : Kiosk) (s : State) (j : Kiosk) : (offerShow k s).coin j = s.coin j := by
  simp [offerShow]
@[simp] theorem offerShow_cash (k : Kiosk) (s : State) (j : Kiosk) : (offerShow k s).cash j = s.cash j := by
  simp [offerShow]
@[simp] theorem offerShow_sess (k : Kiosk) (s : State) (j : Kiosk) : (offerShow k s).sess j = s.sess j := by
  simp [offerShow]
@[simp] theorem offerShow_svc (k : Kiosk) (s : State) (j : Kiosk) : (offerShow k s).svc j = s.svc j := by
  simp [offerShow]
@[simp] theorem offerShow_kcard (k : Kiosk) (s : State) (j : Kiosk) : (offerShow k s).kcard j = s.kcard j := by
  simp [offerShow]
@[simp] theorem offerShow_jobs (k : Kiosk) (s : State) (j : Kiosk) : (offerShow k s).jobs j = s.jobs j := by
  simp [offerShow]
@[simp] theorem offerShow_daily (k : Kiosk) (s : State) (j : Kiosk) : (offerShow k s).daily j = s.daily j := by
  simp [offerShow]
@[simp] theorem offerShow_disp (k : Kiosk) (s : State) (j : Kiosk) : (offerShow k s).disp j = s.disp j := by simp [offerShow]
@[simp] theorem offerShow_link_ne (k : Kiosk) (s : State) {j : Kiosk} (h : j ≠ k) : (offerShow k s).link j = s.link j := by
  simp [offerShow, h]
@[simp] theorem offerShow_link_state (k : Kiosk) (s : State) (j : Kiosk) : ((offerShow k s).link j).state = (s.link j).state := by
  simp [offerShow]
@[simp] theorem offerShow_link_missCount (k : Kiosk) (s : State) (j : Kiosk) : ((offerShow k s).link j).missCount = (s.link j).missCount := by
  simp [offerShow]
@[simp] theorem offerShow_link_pollNumber (k : Kiosk) (s : State) (j : Kiosk) : ((offerShow k s).link j).pollNumber = (s.link j).pollNumber := by
  simp [offerShow]
@[simp] theorem offerShow_link_resyncPending (k : Kiosk) (s : State) (j : Kiosk) : ((offerShow k s).link j).resyncPending = (s.link j).resyncPending := by
  simp [offerShow]
@[simp] theorem offerShow_link_lastToggle (k : Kiosk) (s : State) (j : Kiosk) : ((offerShow k s).link j).lastToggle = (s.link j).lastToggle := by
  simp [offerShow]
@[simp] theorem offerShow_link_firstStatusPending (k : Kiosk) (s : State) (j : Kiosk) : ((offerShow k s).link j).firstStatusPending = (s.link j).firstStatusPending := by
  simp [offerShow]
@[simp] theorem offerShow_link_door (k : Kiosk) (s : State) (j : Kiosk) : ((offerShow k s).link j).door = (s.link j).door := by
  simp [offerShow]
@[simp] theorem offerShow_link_cashbox (k : Kiosk) (s : State) (j : Kiosk) : ((offerShow k s).link j).cashbox = (s.link j).cashbox := by
  simp [offerShow]
@[simp] theorem offerShow_link_paper (k : Kiosk) (s : State) (j : Kiosk) : ((offerShow k s).link j).paper = (s.link j).paper := by
  simp [offerShow]
@[simp] theorem offerShow_link_service (k : Kiosk) (s : State) (j : Kiosk) : ((offerShow k s).link j).service = (s.link j).service := by
  simp [offerShow]
@[simp] theorem offerShow_link_doorReport (k : Kiosk) (s : State) (j : Kiosk) : ((offerShow k s).link j).doorReport = (s.link j).doorReport := by
  simp [offerShow]
/-! ### showDisplay -/

@[simp] theorem showDisplay_pending (k : Kiosk) (d : Display) (s : State) : (showDisplay k d s).pending = s.pending := by
  simp [showDisplay]
@[simp] theorem showDisplay_loopA (k : Kiosk) (d : Display) (s : State) : (showDisplay k d s).loopA = s.loopA := by
  simp [showDisplay]
@[simp] theorem showDisplay_loopB (k : Kiosk) (d : Display) (s : State) : (showDisplay k d s).loopB = s.loopB := by
  simp [showDisplay]
@[simp] theorem showDisplay_coins (k : Kiosk) (d : Display) (s : State) : (showDisplay k d s).coins = s.coins := by
  simp [showDisplay]
@[simp] theorem showDisplay_tariff (k : Kiosk) (d : Display) (s : State) : (showDisplay k d s).tariff = s.tariff := by
  simp [showDisplay]
@[simp] theorem showDisplay_cards (k : Kiosk) (d : Display) (s : State) : (showDisplay k d s).cards = s.cards := by
  simp [showDisplay]
@[simp] theorem showDisplay_templates (k : Kiosk) (d : Display) (s : State) : (showDisplay k d s).templates = s.templates := by
  simp [showDisplay]
@[simp] theorem showDisplay_settings (k : Kiosk) (d : Display) (s : State) : (showDisplay k d s).settings = s.settings := by
  simp [showDisplay]
@[simp] theorem showDisplay_journal (k : Kiosk) (d : Display) (s : State) : (showDisplay k d s).journal = s.journal := by
  simp [showDisplay]
@[simp] theorem showDisplay_clock (k : Kiosk) (d : Display) (s : State) : (showDisplay k d s).clock = s.clock := by
  simp [showDisplay]
@[simp] theorem showDisplay_depot (k : Kiosk) (d : Display) (s : State) : (showDisplay k d s).depot = s.depot := by
  simp [showDisplay]
@[simp] theorem showDisplay_loop (k : Kiosk) (d : Display) (s : State) (l : LoopId) : (showDisplay k d s).loop l = s.loop l := by cases l <;> simp [State.loop]
@[simp] theorem showDisplay_coin (k : Kiosk) (d : Display) (s : State) (j : Kiosk) : (showDisplay k d s).coin j = s.coin j := by
  simp [showDisplay]
@[simp] theorem showDisplay_cash (k : Kiosk) (d : Display) (s : State) (j : Kiosk) : (showDisplay k d s).cash j = s.cash j := by
  simp [showDisplay]
@[simp] theorem showDisplay_sess (k : Kiosk) (d : Display) (s : State) (j : Kiosk) : (showDisplay k d s).sess j = s.sess j := by
  simp [showDisplay]
@[simp] theorem showDisplay_svc (k : Kiosk) (d : Display) (s : State) (j : Kiosk) : (showDisplay k d s).svc j = s.svc j := by
  simp [showDisplay]
@[simp] theorem showDisplay_kcard (k : Kiosk) (d : Display) (s : State) (j : Kiosk) : (showDisplay k d s).kcard j = s.kcard j := by
  simp [showDisplay]
@[simp] theorem showDisplay_jobs (k : Kiosk) (d : Display) (s : State) (j : Kiosk) : (showDisplay k d s).jobs j = s.jobs j := by
  simp [showDisplay]
@[simp] theorem showDisplay_daily (k : Kiosk) (d : Display) (s : State) (j : Kiosk) : (showDisplay k d s).daily j = s.daily j := by
  simp [showDisplay]
@[simp] theorem showDisplay_disp_ne (k : Kiosk) (d : Display) (s : State) {j : Kiosk} (h : j ≠ k) : (showDisplay k d s).disp j = s.disp j := by
  simp [showDisplay, h]
@[simp] theorem showDisplay_disp_same (k : Kiosk) (d : Display) (s : State) : (showDisplay k d s).disp k = d := by
  simp [showDisplay]
@[simp] theorem showDisplay_link_ne (k : Kiosk) (d : Display) (s : State) {j : Kiosk} (h : j ≠ k) : (showDisplay k d s).link j = s.link j := by
  simp [showDisplay, h]
@[simp] theorem showDisplay_link_state (k : Kiosk) (d : Display) (s : State) (j : Kiosk) : ((showDisplay k d s).link j).state = (s.link j).state := by
  simp [showDisplay]
@[simp] theorem showDisplay_link_missCount (k : Kiosk) (d : Display) (s : State) (j : Kiosk) : ((showDisplay k d s).link j).missCount = (s.link j).missCount := by
  simp [showDisplay]
@[simp] theorem showDisplay_link_pollNumber (k : Kiosk) (d : Display) (s : State) (j : Kiosk) : ((showDisplay k d s).link j).pollNumber = (s.link j).pollNumber := by
  simp [showDisplay]
@[simp] theorem showDisplay_link_resyncPending (k : Kiosk) (d : Display) (s : State) (j : Kiosk) : ((showDisplay k d s).link j).resyncPending = (s.link j).resyncPending := by
  simp [showDisplay]
@[simp] theorem showDisplay_link_lastToggle (k : Kiosk) (d : Display) (s : State) (j : Kiosk) : ((showDisplay k d s).link j).lastToggle = (s.link j).lastToggle := by
  simp [showDisplay]
@[simp] theorem showDisplay_link_firstStatusPending (k : Kiosk) (d : Display) (s : State) (j : Kiosk) : ((showDisplay k d s).link j).firstStatusPending = (s.link j).firstStatusPending := by
  simp [showDisplay]
@[simp] theorem showDisplay_link_door (k : Kiosk) (d : Display) (s : State) (j : Kiosk) : ((showDisplay k d s).link j).door = (s.link j).door := by
  simp [showDisplay]
@[simp] theorem showDisplay_link_cashbox (k : Kiosk) (d : Display) (s : State) (j : Kiosk) : ((showDisplay k d s).link j).cashbox = (s.link j).cashbox := by
  simp [showDisplay]
@[simp] theorem showDisplay_link_paper (k : Kiosk) (d : Display) (s : State) (j : Kiosk) : ((showDisplay k d s).link j).paper = (s.link j).paper := by
  simp [showDisplay]
@[simp] theorem showDisplay_link_service (k : Kiosk) (d : Display) (s : State) (j : Kiosk) : ((showDisplay k d s).link j).service = (s.link j).service := by
  simp [showDisplay]
@[simp] theorem showDisplay_link_doorReport (k : Kiosk) (d : Display) (s : State) (j : Kiosk) : ((showDisplay k d s).link j).doorReport = (s.link j).doorReport := by
  simp [showDisplay]
/-! ### putDisplay -/

@[simp] theorem putDisplay_pending (k : Kiosk) (d : Display) (s : State) : (putDisplay k d s).pending = s.pending := by
  unfold putDisplay; split <;> simp
@[simp] theorem putDisplay_loopA (k : Kiosk) (d : Display) (s : State) : (putDisplay k d s).loopA = s.loopA := by
  unfold putDisplay; split <;> simp
@[simp] theorem putDisplay_loopB (k : Kiosk) (d : Display) (s : State) : (putDisplay k d s).loopB = s.loopB := by
  unfold putDisplay; split <;> simp
@[simp] theorem putDisplay_coins (k : Kiosk) (d : Display) (s : State) : (putDisplay k d s).coins = s.coins := by
  unfold putDisplay; split <;> simp
@[simp] theorem putDisplay_tariff (k : Kiosk) (d : Display) (s : State) : (putDisplay k d s).tariff = s.tariff := by
  unfold putDisplay; split <;> simp
@[simp] theorem putDisplay_cards (k : Kiosk) (d : Display) (s : State) : (putDisplay k d s).cards = s.cards := by
  unfold putDisplay; split <;> simp
@[simp] theorem putDisplay_templates (k : Kiosk) (d : Display) (s : State) : (putDisplay k d s).templates = s.templates := by
  unfold putDisplay; split <;> simp
@[simp] theorem putDisplay_settings (k : Kiosk) (d : Display) (s : State) : (putDisplay k d s).settings = s.settings := by
  unfold putDisplay; split <;> simp
@[simp] theorem putDisplay_journal (k : Kiosk) (d : Display) (s : State) : (putDisplay k d s).journal = s.journal := by
  unfold putDisplay; split <;> simp
@[simp] theorem putDisplay_clock (k : Kiosk) (d : Display) (s : State) : (putDisplay k d s).clock = s.clock := by
  unfold putDisplay; split <;> simp
@[simp] theorem putDisplay_depot (k : Kiosk) (d : Display) (s : State) : (putDisplay k d s).depot = s.depot := by
  unfold putDisplay; split <;> simp
@[simp] theorem putDisplay_loop (k : Kiosk) (d : Display) (s : State) (l : LoopId) : (putDisplay k d s).loop l = s.loop l := by cases l <;> simp [State.loop]
@[simp] theorem putDisplay_coin (k : Kiosk) (d : Display) (s : State) (j : Kiosk) : (putDisplay k d s).coin j = s.coin j := by
  unfold putDisplay; split <;> simp
@[simp] theorem putDisplay_cash (k : Kiosk) (d : Display) (s : State) (j : Kiosk) : (putDisplay k d s).cash j = s.cash j := by
  unfold putDisplay; split <;> simp
@[simp] theorem putDisplay_sess (k : Kiosk) (d : Display) (s : State) (j : Kiosk) : (putDisplay k d s).sess j = s.sess j := by
  unfold putDisplay; split <;> simp
@[simp] theorem putDisplay_svc (k : Kiosk) (d : Display) (s : State) (j : Kiosk) : (putDisplay k d s).svc j = s.svc j := by
  unfold putDisplay; split <;> simp
@[simp] theorem putDisplay_kcard (k : Kiosk) (d : Display) (s : State) (j : Kiosk) : (putDisplay k d s).kcard j = s.kcard j := by
  unfold putDisplay; split <;> simp
@[simp] theorem putDisplay_jobs (k : Kiosk) (d : Display) (s : State) (j : Kiosk) : (putDisplay k d s).jobs j = s.jobs j := by
  unfold putDisplay; split <;> simp
@[simp] theorem putDisplay_daily (k : Kiosk) (d : Display) (s : State) (j : Kiosk) : (putDisplay k d s).daily j = s.daily j := by
  unfold putDisplay; split <;> simp
@[simp] theorem putDisplay_disp_ne (k : Kiosk) (d : Display) (s : State) {j : Kiosk} (h : j ≠ k) : (putDisplay k d s).disp j = s.disp j := by
  unfold putDisplay; split <;> simp [h]
@[simp] theorem putDisplay_disp_same (k : Kiosk) (d : Display) (s : State) : (putDisplay k d s).disp k = d := by
  unfold putDisplay; split <;> simp_all
@[simp] theorem putDisplay_link_ne (k : Kiosk) (d : Display) (s : State) {j : Kiosk} (h : j ≠ k) : (putDisplay k d s).link j = s.link j := by
  unfold putDisplay; split <;> simp [h]
@[simp] theorem putDisplay_link_state (k : Kiosk) (d : Display) (s : State) (j : Kiosk) : ((putDisplay k d s).link j).state = (s.link j).state := by
  unfold putDisplay; split <;> simp
@[simp] theorem putDisplay_link_missCount (k : Kiosk) (d : Display) (s : State) (j : Kiosk) : ((putDisplay k d s).link j).missCount = (s.link j).missCount := by
  unfold putDisplay; split <;> simp
@[simp] theorem putDisplay_link_pollNumber (k : Kiosk) (d : Display) (s : State) (j : Kiosk) : ((putDisplay k d s).link j).pollNumber = (s.link j).pollNumber := by
  unfold putDisplay; split <;> simp
@[simp] theorem putDisplay_link_resyncPending (k : Kiosk) (d : Display) (s : State) (j : Kiosk) : ((putDisplay k d s).link j).resyncPending = (s.link j).resyncPending := by
  unfold putDisplay; split <;> simp
@[simp] theorem putDisplay_link_lastToggle (k : Kiosk) (d : Display) (s : State) (j : Kiosk) : ((putDisplay k d s).link j).lastToggle = (s.link j).lastToggle := by
  unfold putDisplay; split <;> simp
@[simp] theorem putDisplay_link_firstStatusPending (k : Kiosk) (d : Display) (s : State) (j : Kiosk) : ((putDisplay k d s).link j).firstStatusPending = (s.link j).firstStatusPending := by
  unfold putDisplay; split <;> simp
@[simp] theorem putDisplay_link_door (k : Kiosk) (d : Display) (s : State) (j : Kiosk) : ((putDisplay k d s).link j).door = (s.link j).door := by
  unfold putDisplay; split <;> simp
@[simp] theorem putDisplay_link_cashbox (k : Kiosk) (d : Display) (s : State) (j : Kiosk) : ((putDisplay k d s).link j).cashbox = (s.link j).cashbox := by
  unfold putDisplay; split <;> simp
@[simp] theorem putDisplay_link_paper (k : Kiosk) (d : Display) (s : State) (j : Kiosk) : ((putDisplay k d s).link j).paper = (s.link j).paper := by
  unfold putDisplay; split <;> simp
@[simp] theorem putDisplay_link_service (k : Kiosk) (d : Display) (s : State) (j : Kiosk) : ((putDisplay k d s).link j).service = (s.link j).service := by
  unfold putDisplay; split <;> simp
@[simp] theorem putDisplay_link_doorReport (k : Kiosk) (d : Display) (s : State) (j : Kiosk) : ((putDisplay k d s).link j).doorReport = (s.link j).doorReport := by
  unfold putDisplay; split <;> simp
/-! ### putMessage -/

@[simp] theorem putMessage_pending (k : Kiosk) (m : Message) (s : State) : (putMessage k m s).pending = s.pending := by
  simp [putMessage]
@[simp] theorem putMessage_loopA (k : Kiosk) (m : Message) (s : State) : (putMessage k m s).loopA = s.loopA := by
  simp [putMessage]
@[simp] theorem putMessage_loopB (k : Kiosk) (m : Message) (s : State) : (putMessage k m s).loopB = s.loopB := by
  simp [putMessage]
@[simp] theorem putMessage_coins (k : Kiosk) (m : Message) (s : State) : (putMessage k m s).coins = s.coins := by
  simp [putMessage]
@[simp] theorem putMessage_tariff (k : Kiosk) (m : Message) (s : State) : (putMessage k m s).tariff = s.tariff := by
  simp [putMessage]
@[simp] theorem putMessage_cards (k : Kiosk) (m : Message) (s : State) : (putMessage k m s).cards = s.cards := by
  simp [putMessage]
@[simp] theorem putMessage_templates (k : Kiosk) (m : Message) (s : State) : (putMessage k m s).templates = s.templates := by
  simp [putMessage]
@[simp] theorem putMessage_settings (k : Kiosk) (m : Message) (s : State) : (putMessage k m s).settings = s.settings := by
  simp [putMessage]
@[simp] theorem putMessage_journal (k : Kiosk) (m : Message) (s : State) : (putMessage k m s).journal = s.journal := by
  simp [putMessage]
@[simp] theorem putMessage_clock (k : Kiosk) (m : Message) (s : State) : (putMessage k m s).clock = s.clock := by
  simp [putMessage]
@[simp] theorem putMessage_depot (k : Kiosk) (m : Message) (s : State) : (putMessage k m s).depot = s.depot := by
  simp [putMessage]
@[simp] theorem putMessage_loop (k : Kiosk) (m : Message) (s : State) (l : LoopId) : (putMessage k m s).loop l = s.loop l := by cases l <;> simp [State.loop]
@[simp] theorem putMessage_coin (k : Kiosk) (m : Message) (s : State) (j : Kiosk) : (putMessage k m s).coin j = s.coin j := by
  simp [putMessage]
@[simp] theorem putMessage_cash (k : Kiosk) (m : Message) (s : State) (j : Kiosk) : (putMessage k m s).cash j = s.cash j := by
  simp [putMessage]
@[simp] theorem putMessage_sess (k : Kiosk) (m : Message) (s : State) (j : Kiosk) : (putMessage k m s).sess j = s.sess j := by
  simp [putMessage]
@[simp] theorem putMessage_svc (k : Kiosk) (m : Message) (s : State) (j : Kiosk) : (putMessage k m s).svc j = s.svc j := by
  simp [putMessage]
@[simp] theorem putMessage_kcard (k : Kiosk) (m : Message) (s : State) (j : Kiosk) : (putMessage k m s).kcard j = s.kcard j := by
  simp [putMessage]
@[simp] theorem putMessage_jobs (k : Kiosk) (m : Message) (s : State) (j : Kiosk) : (putMessage k m s).jobs j = s.jobs j := by
  simp [putMessage]
@[simp] theorem putMessage_daily (k : Kiosk) (m : Message) (s : State) (j : Kiosk) : (putMessage k m s).daily j = s.daily j := by
  simp [putMessage]
@[simp] theorem putMessage_disp_ne (k : Kiosk) (m : Message) (s : State) {j : Kiosk} (h : j ≠ k) : (putMessage k m s).disp j = s.disp j := by
  simp [putMessage, h]
@[simp] theorem putMessage_disp_same (k : Kiosk) (m : Message) (s : State) : (putMessage k m s).disp k = displayOf (s.sess k) (s.disp k) m := by
  simp [putMessage]
@[simp] theorem putMessage_link_ne (k : Kiosk) (m : Message) (s : State) {j : Kiosk} (h : j ≠ k) : (putMessage k m s).link j = s.link j := by
  simp [putMessage, h]
@[simp] theorem putMessage_link_state (k : Kiosk) (m : Message) (s : State) (j : Kiosk) : ((putMessage k m s).link j).state = (s.link j).state := by
  simp [putMessage]
@[simp] theorem putMessage_link_missCount (k : Kiosk) (m : Message) (s : State) (j : Kiosk) : ((putMessage k m s).link j).missCount = (s.link j).missCount := by
  simp [putMessage]
@[simp] theorem putMessage_link_pollNumber (k : Kiosk) (m : Message) (s : State) (j : Kiosk) : ((putMessage k m s).link j).pollNumber = (s.link j).pollNumber := by
  simp [putMessage]
@[simp] theorem putMessage_link_resyncPending (k : Kiosk) (m : Message) (s : State) (j : Kiosk) : ((putMessage k m s).link j).resyncPending = (s.link j).resyncPending := by
  simp [putMessage]
@[simp] theorem putMessage_link_lastToggle (k : Kiosk) (m : Message) (s : State) (j : Kiosk) : ((putMessage k m s).link j).lastToggle = (s.link j).lastToggle := by
  simp [putMessage]
@[simp] theorem putMessage_link_firstStatusPending (k : Kiosk) (m : Message) (s : State) (j : Kiosk) : ((putMessage k m s).link j).firstStatusPending = (s.link j).firstStatusPending := by
  simp [putMessage]
@[simp] theorem putMessage_link_door (k : Kiosk) (m : Message) (s : State) (j : Kiosk) : ((putMessage k m s).link j).door = (s.link j).door := by
  simp [putMessage]
@[simp] theorem putMessage_link_cashbox (k : Kiosk) (m : Message) (s : State) (j : Kiosk) : ((putMessage k m s).link j).cashbox = (s.link j).cashbox := by
  simp [putMessage]
@[simp] theorem putMessage_link_paper (k : Kiosk) (m : Message) (s : State) (j : Kiosk) : ((putMessage k m s).link j).paper = (s.link j).paper := by
  simp [putMessage]
@[simp] theorem putMessage_link_service (k : Kiosk) (m : Message) (s : State) (j : Kiosk) : ((putMessage k m s).link j).service = (s.link j).service := by
  simp [putMessage]
@[simp] theorem putMessage_link_doorReport (k : Kiosk) (m : Message) (s : State) (j : Kiosk) : ((putMessage k m s).link j).doorReport = (s.link j).doorReport := by
  simp [putMessage]
/-! ### showMessage -/

@[simp] theorem showMessage_pending (k : Kiosk) (m : Message) (s : State) : (showMessage k m s).pending = s.pending := by
  simp [showMessage]
@[simp] theorem showMessage_loopA (k : Kiosk) (m : Message) (s : State) : (showMessage k m s).loopA = s.loopA := by
  simp [showMessage]
@[simp] theorem showMessage_loopB (k : Kiosk) (m : Message) (s : State) : (showMessage k m s).loopB = s.loopB := by
  simp [showMessage]
@[simp] theorem showMessage_coins (k : Kiosk) (m : Message) (s : State) : (showMessage k m s).coins = s.coins := by
  simp [showMessage]
@[simp] theorem showMessage_tariff (k : Kiosk) (m : Message) (s : State) : (showMessage k m s).tariff = s.tariff := by
  simp [showMessage]
@[simp] theorem showMessage_cards (k : Kiosk) (m : Message) (s : State) : (showMessage k m s).cards = s.cards := by
  simp [showMessage]
@[simp] theorem showMessage_templates (k : Kiosk) (m : Message) (s : State) : (showMessage k m s).templates = s.templates := by
  simp [showMessage]
@[simp] theorem showMessage_settings (k : Kiosk) (m : Message) (s : State) : (showMessage k m s).settings = s.settings := by
  simp [showMessage]
@[simp] theorem showMessage_journal (k : Kiosk) (m : Message) (s : State) : (showMessage k m s).journal = s.journal := by
  simp [showMessage]
@[simp] theorem showMessage_clock (k : Kiosk) (m : Message) (s : State) : (showMessage k m s).clock = s.clock := by
  simp [showMessage]
@[simp] theorem showMessage_depot (k : Kiosk) (m : Message) (s : State) : (showMessage k m s).depot = s.depot := by
  simp [showMessage]
@[simp] theorem showMessage_loop (k : Kiosk) (m : Message) (s : State) (l : LoopId) : (showMessage k m s).loop l = s.loop l := by cases l <;> simp [State.loop]
@[simp] theorem showMessage_coin (k : Kiosk) (m : Message) (s : State) (j : Kiosk) : (showMessage k m s).coin j = s.coin j := by
  simp [showMessage]
@[simp] theorem showMessage_cash (k : Kiosk) (m : Message) (s : State) (j : Kiosk) : (showMessage k m s).cash j = s.cash j := by
  simp [showMessage]
@[simp] theorem showMessage_sess (k : Kiosk) (m : Message) (s : State) (j : Kiosk) : (showMessage k m s).sess j = s.sess j := by
  simp [showMessage]
@[simp] theorem showMessage_svc (k : Kiosk) (m : Message) (s : State) (j : Kiosk) : (showMessage k m s).svc j = s.svc j := by
  simp [showMessage]
@[simp] theorem showMessage_kcard (k : Kiosk) (m : Message) (s : State) (j : Kiosk) : (showMessage k m s).kcard j = s.kcard j := by
  simp [showMessage]
@[simp] theorem showMessage_jobs (k : Kiosk) (m : Message) (s : State) (j : Kiosk) : (showMessage k m s).jobs j = s.jobs j := by
  simp [showMessage]
@[simp] theorem showMessage_daily (k : Kiosk) (m : Message) (s : State) (j : Kiosk) : (showMessage k m s).daily j = s.daily j := by
  simp [showMessage]
@[simp] theorem showMessage_disp_ne (k : Kiosk) (m : Message) (s : State) {j : Kiosk} (h : j ≠ k) : (showMessage k m s).disp j = s.disp j := by
  simp [showMessage, h]
@[simp] theorem showMessage_disp_same (k : Kiosk) (m : Message) (s : State) : (showMessage k m s).disp k = displayOf (s.sess k) (s.disp k) m := by
  simp [showMessage]
@[simp] theorem showMessage_link_ne (k : Kiosk) (m : Message) (s : State) {j : Kiosk} (h : j ≠ k) : (showMessage k m s).link j = s.link j := by
  simp [showMessage, h]
@[simp] theorem showMessage_link_state (k : Kiosk) (m : Message) (s : State) (j : Kiosk) : ((showMessage k m s).link j).state = (s.link j).state := by
  simp [showMessage]
@[simp] theorem showMessage_link_missCount (k : Kiosk) (m : Message) (s : State) (j : Kiosk) : ((showMessage k m s).link j).missCount = (s.link j).missCount := by
  simp [showMessage]
@[simp] theorem showMessage_link_pollNumber (k : Kiosk) (m : Message) (s : State) (j : Kiosk) : ((showMessage k m s).link j).pollNumber = (s.link j).pollNumber := by
  simp [showMessage]
@[simp] theorem showMessage_link_resyncPending (k : Kiosk) (m : Message) (s : State) (j : Kiosk) : ((showMessage k m s).link j).resyncPending = (s.link j).resyncPending := by
  simp [showMessage]
@[simp] theorem showMessage_link_lastToggle (k : Kiosk) (m : Message) (s : State) (j : Kiosk) : ((showMessage k m s).link j).lastToggle = (s.link j).lastToggle := by
  simp [showMessage]
@[simp] theorem showMessage_link_firstStatusPending (k : Kiosk) (m : Message) (s : State) (j : Kiosk) : ((showMessage k m s).link j).firstStatusPending = (s.link j).firstStatusPending := by
  simp [showMessage]
@[simp] theorem showMessage_link_door (k : Kiosk) (m : Message) (s : State) (j : Kiosk) : ((showMessage k m s).link j).door = (s.link j).door := by
  simp [showMessage]
@[simp] theorem showMessage_link_cashbox (k : Kiosk) (m : Message) (s : State) (j : Kiosk) : ((showMessage k m s).link j).cashbox = (s.link j).cashbox := by
  simp [showMessage]
@[simp] theorem showMessage_link_paper (k : Kiosk) (m : Message) (s : State) (j : Kiosk) : ((showMessage k m s).link j).paper = (s.link j).paper := by
  simp [showMessage]
@[simp] theorem showMessage_link_service (k : Kiosk) (m : Message) (s : State) (j : Kiosk) : ((showMessage k m s).link j).service = (s.link j).service := by
  simp [showMessage]
@[simp] theorem showMessage_link_doorReport (k : Kiosk) (m : Message) (s : State) (j : Kiosk) : ((showMessage k m s).link j).doorReport = (s.link j).doorReport := by
  simp [showMessage]
/-! ### recompute -/

@[simp] theorem recompute_pending (k : Kiosk) (s : State) : (recompute k s).pending = s.pending := by
  simp [recompute]
@[simp] theorem recompute_loopA (k : Kiosk) (s : State) : (recompute k s).loopA = s.loopA := by
  simp [recompute]
@[simp] theorem recompute_loopB (k : Kiosk) (s : State) : (recompute k s).loopB = s.loopB := by
  simp [recompute]
@[simp] theorem recompute_coins (k : Kiosk) (s : State) : (recompute k s).coins = s.coins := by
  simp [recompute]
@[simp] theorem recompute_tariff (k : Kiosk) (s : State) : (recompute k s).tariff = s.tariff := by
  simp [recompute]
@[simp] theorem recompute_cards (k : Kiosk) (s : State) : (recompute k s).cards = s.cards := by
  simp [recompute]
@[simp] theorem recompute_templates (k : Kiosk) (s : State) : (recompute k s).templates = s.templates := by
  simp [recompute]
@[simp] theorem recompute_settings (k : Kiosk) (s : State) : (recompute k s).settings = s.settings := by
  simp [recompute]
@[simp] theorem recompute_journal (k : Kiosk) (s : State) : (recompute k s).journal = s.journal := by
  simp [recompute]
@[simp] theorem recompute_clock (k : Kiosk) (s : State) : (recompute k s).clock = s.clock := by
  simp [recompute]
@[simp] theorem recompute_depot (k : Kiosk) (s : State) : (recompute k s).depot = s.depot := by
  simp [recompute]
@[simp] theorem recompute_loop (k : Kiosk) (s : State) (l : LoopId) : (recompute k s).loop l = s.loop l := by cases l <;> simp [State.loop]
@[simp] theorem recompute_coin (k : Kiosk) (s : State) (j : Kiosk) : (recompute k s).coin j = s.coin j := by
  simp [recompute]
@[simp] theorem recompute_cash (k : Kiosk) (s : State) (j : Kiosk) : (recompute k s).cash j = s.cash j := by
  simp [recompute]
@[simp] theorem recompute_sess (k : Kiosk) (s : State) (j : Kiosk) : (recompute k s).sess j = s.sess j := by
  simp [recompute]
@[simp] theorem recompute_svc (k : Kiosk) (s : State) (j : Kiosk) : (recompute k s).svc j = s.svc j := by
  simp [recompute]
@[simp] theorem recompute_kcard (k : Kiosk) (s : State) (j : Kiosk) : (recompute k s).kcard j = s.kcard j := by
  simp [recompute]
@[simp] theorem recompute_jobs (k : Kiosk) (s : State) (j : Kiosk) : (recompute k s).jobs j = s.jobs j := by
  simp [recompute]
@[simp] theorem recompute_daily (k : Kiosk) (s : State) (j : Kiosk) : (recompute k s).daily j = s.daily j := by
  simp [recompute]
@[simp] theorem recompute_disp_ne (k : Kiosk) (s : State) {j : Kiosk} (h : j ≠ k) : (recompute k s).disp j = s.disp j := by
  simp [recompute, h]
@[simp] theorem recompute_disp_same (k : Kiosk) (s : State) : (recompute k s).disp k = { s.disp k with indicator := indicatorOf k s } := by
  simp [recompute]
@[simp] theorem recompute_link_ne (k : Kiosk) (s : State) {j : Kiosk} (h : j ≠ k) : (recompute k s).link j = s.link j := by
  simp [recompute, h]
@[simp] theorem recompute_link_state (k : Kiosk) (s : State) (j : Kiosk) : ((recompute k s).link j).state = (s.link j).state := by
  simp [recompute]
@[simp] theorem recompute_link_missCount (k : Kiosk) (s : State) (j : Kiosk) : ((recompute k s).link j).missCount = (s.link j).missCount := by
  simp [recompute]
@[simp] theorem recompute_link_pollNumber (k : Kiosk) (s : State) (j : Kiosk) : ((recompute k s).link j).pollNumber = (s.link j).pollNumber := by
  simp [recompute]
@[simp] theorem recompute_link_resyncPending (k : Kiosk) (s : State) (j : Kiosk) : ((recompute k s).link j).resyncPending = (s.link j).resyncPending := by
  simp [recompute]
@[simp] theorem recompute_link_lastToggle (k : Kiosk) (s : State) (j : Kiosk) : ((recompute k s).link j).lastToggle = (s.link j).lastToggle := by
  simp [recompute]
@[simp] theorem recompute_link_firstStatusPending (k : Kiosk) (s : State) (j : Kiosk) : ((recompute k s).link j).firstStatusPending = (s.link j).firstStatusPending := by
  simp [recompute]
@[simp] theorem recompute_link_door (k : Kiosk) (s : State) (j : Kiosk) : ((recompute k s).link j).door = (s.link j).door := by
  simp [recompute]
@[simp] theorem recompute_link_cashbox (k : Kiosk) (s : State) (j : Kiosk) : ((recompute k s).link j).cashbox = (s.link j).cashbox := by
  simp [recompute]
@[simp] theorem recompute_link_paper (k : Kiosk) (s : State) (j : Kiosk) : ((recompute k s).link j).paper = (s.link j).paper := by
  simp [recompute]
@[simp] theorem recompute_link_service (k : Kiosk) (s : State) (j : Kiosk) : ((recompute k s).link j).service = (s.link j).service := by
  simp [recompute]
@[simp] theorem recompute_link_doorReport (k : Kiosk) (s : State) (j : Kiosk) : ((recompute k s).link j).doorReport = (s.link j).doorReport := by
  simp [recompute]
/-! ### Every kiosk in turn -/

/-- A reading that one step keeps is kept by the fold of the step over every kiosk. -/
theorem foldl_keeps {α β : Type} (f : α → State → State) (g : State → β) (h : ∀ a s, g (f a s) = g s) (l : List α) (s : State) :
    g (l.foldl (fun t a => f a t) s) = g s := by
  induction l generalizing s with
  | nil => rfl
  | cons a l ih => simp only [List.foldl_cons]; rw [ih, h]

/-! ### recomputeAll -/

@[simp] theorem recomputeAll_pending (s : State) : (recomputeAll s).pending = s.pending :=
  foldl_keeps (fun k t => recompute k t) (fun t => t.pending) (fun _ _ => by simp) allKiosks s
@[simp] theorem recomputeAll_loopA (s : State) : (recomputeAll s).loopA = s.loopA :=
  foldl_keeps (fun k t => recompute k t) (fun t => t.loopA) (fun _ _ => by simp) allKiosks s
@[simp] theorem recomputeAll_loopB (s : State) : (recomputeAll s).loopB = s.loopB :=
  foldl_keeps (fun k t => recompute k t) (fun t => t.loopB) (fun _ _ => by simp) allKiosks s
@[simp] theorem recomputeAll_coins (s : State) : (recomputeAll s).coins = s.coins :=
  foldl_keeps (fun k t => recompute k t) (fun t => t.coins) (fun _ _ => by simp) allKiosks s
@[simp] theorem recomputeAll_tariff (s : State) : (recomputeAll s).tariff = s.tariff :=
  foldl_keeps (fun k t => recompute k t) (fun t => t.tariff) (fun _ _ => by simp) allKiosks s
@[simp] theorem recomputeAll_cards (s : State) : (recomputeAll s).cards = s.cards :=
  foldl_keeps (fun k t => recompute k t) (fun t => t.cards) (fun _ _ => by simp) allKiosks s
@[simp] theorem recomputeAll_templates (s : State) : (recomputeAll s).templates = s.templates :=
  foldl_keeps (fun k t => recompute k t) (fun t => t.templates) (fun _ _ => by simp) allKiosks s
@[simp] theorem recomputeAll_settings (s : State) : (recomputeAll s).settings = s.settings :=
  foldl_keeps (fun k t => recompute k t) (fun t => t.settings) (fun _ _ => by simp) allKiosks s
@[simp] theorem recomputeAll_journal (s : State) : (recomputeAll s).journal = s.journal :=
  foldl_keeps (fun k t => recompute k t) (fun t => t.journal) (fun _ _ => by simp) allKiosks s
@[simp] theorem recomputeAll_clock (s : State) : (recomputeAll s).clock = s.clock :=
  foldl_keeps (fun k t => recompute k t) (fun t => t.clock) (fun _ _ => by simp) allKiosks s
@[simp] theorem recomputeAll_depot (s : State) : (recomputeAll s).depot = s.depot :=
  foldl_keeps (fun k t => recompute k t) (fun t => t.depot) (fun _ _ => by simp) allKiosks s
@[simp] theorem recomputeAll_loop (s : State) (l : LoopId) : (recomputeAll s).loop l = s.loop l := by cases l <;> simp [State.loop]
@[simp] theorem recomputeAll_coin (s : State) (j : Kiosk) : (recomputeAll s).coin j = s.coin j :=
  foldl_keeps (fun k t => recompute k t) (fun t => t.coin j) (fun _ _ => by simp) allKiosks s
@[simp] theorem recomputeAll_cash (s : State) (j : Kiosk) : (recomputeAll s).cash j = s.cash j :=
  foldl_keeps (fun k t => recompute k t) (fun t => t.cash j) (fun _ _ => by simp) allKiosks s
@[simp] theorem recomputeAll_sess (s : State) (j : Kiosk) : (recomputeAll s).sess j = s.sess j :=
  foldl_keeps (fun k t => recompute k t) (fun t => t.sess j) (fun _ _ => by simp) allKiosks s
@[simp] theorem recomputeAll_svc (s : State) (j : Kiosk) : (recomputeAll s).svc j = s.svc j :=
  foldl_keeps (fun k t => recompute k t) (fun t => t.svc j) (fun _ _ => by simp) allKiosks s
@[simp] theorem recomputeAll_kcard (s : State) (j : Kiosk) : (recomputeAll s).kcard j = s.kcard j :=
  foldl_keeps (fun k t => recompute k t) (fun t => t.kcard j) (fun _ _ => by simp) allKiosks s
@[simp] theorem recomputeAll_jobs (s : State) (j : Kiosk) : (recomputeAll s).jobs j = s.jobs j :=
  foldl_keeps (fun k t => recompute k t) (fun t => t.jobs j) (fun _ _ => by simp) allKiosks s
@[simp] theorem recomputeAll_daily (s : State) (j : Kiosk) : (recomputeAll s).daily j = s.daily j :=
  foldl_keeps (fun k t => recompute k t) (fun t => t.daily j) (fun _ _ => by simp) allKiosks s
@[simp] theorem recomputeAll_link_state (s : State) (j : Kiosk) : ((recomputeAll s).link j).state = (s.link j).state :=
  foldl_keeps (fun k t => recompute k t) (fun t => (t.link j).state) (fun _ _ => by simp) allKiosks s
@[simp] theorem recomputeAll_link_missCount (s : State) (j : Kiosk) : ((recomputeAll s).link j).missCount = (s.link j).missCount :=
  foldl_keeps (fun k t => recompute k t) (fun t => (t.link j).missCount) (fun _ _ => by simp) allKiosks s
@[simp] theorem recomputeAll_link_pollNumber (s : State) (j : Kiosk) : ((recomputeAll s).link j).pollNumber = (s.link j).pollNumber :=
  foldl_keeps (fun k t => recompute k t) (fun t => (t.link j).pollNumber) (fun _ _ => by simp) allKiosks s
@[simp] theorem recomputeAll_link_resyncPending (s : State) (j : Kiosk) : ((recomputeAll s).link j).resyncPending = (s.link j).resyncPending :=
  foldl_keeps (fun k t => recompute k t) (fun t => (t.link j).resyncPending) (fun _ _ => by simp) allKiosks s
@[simp] theorem recomputeAll_link_lastToggle (s : State) (j : Kiosk) : ((recomputeAll s).link j).lastToggle = (s.link j).lastToggle :=
  foldl_keeps (fun k t => recompute k t) (fun t => (t.link j).lastToggle) (fun _ _ => by simp) allKiosks s
@[simp] theorem recomputeAll_link_firstStatusPending (s : State) (j : Kiosk) : ((recomputeAll s).link j).firstStatusPending = (s.link j).firstStatusPending :=
  foldl_keeps (fun k t => recompute k t) (fun t => (t.link j).firstStatusPending) (fun _ _ => by simp) allKiosks s
@[simp] theorem recomputeAll_link_door (s : State) (j : Kiosk) : ((recomputeAll s).link j).door = (s.link j).door :=
  foldl_keeps (fun k t => recompute k t) (fun t => (t.link j).door) (fun _ _ => by simp) allKiosks s
@[simp] theorem recomputeAll_link_cashbox (s : State) (j : Kiosk) : ((recomputeAll s).link j).cashbox = (s.link j).cashbox :=
  foldl_keeps (fun k t => recompute k t) (fun t => (t.link j).cashbox) (fun _ _ => by simp) allKiosks s
@[simp] theorem recomputeAll_link_paper (s : State) (j : Kiosk) : ((recomputeAll s).link j).paper = (s.link j).paper :=
  foldl_keeps (fun k t => recompute k t) (fun t => (t.link j).paper) (fun _ _ => by simp) allKiosks s
@[simp] theorem recomputeAll_link_service (s : State) (j : Kiosk) : ((recomputeAll s).link j).service = (s.link j).service :=
  foldl_keeps (fun k t => recompute k t) (fun t => (t.link j).service) (fun _ _ => by simp) allKiosks s
@[simp] theorem recomputeAll_link_doorReport (s : State) (j : Kiosk) : ((recomputeAll s).link j).doorReport = (s.link j).doorReport :=
  foldl_keeps (fun k t => recompute k t) (fun t => (t.link j).doorReport) (fun _ _ => by simp) allKiosks s

end Sys2Proof.Machine
end

