-- ==== Sys2Proof/Laws/Clock.lean ====
section
/-! SUPPORT. What the advance of the Depot Clock, the day roll and the switch leave: one lemma per operation and part of
the state (R64, R167, R168, R170, R172, R173). -/

namespace Sys2Proof.Machine

/-! ### Elapsed seconds -/

@[simp] theorem DateTime.advanceBy_zero (d : DateTime) : d.advanceBy 0 = d := rfl
@[simp] theorem DateTime.advanceBy_succ (d : DateTime) (n : Nat) : d.advanceBy (n + 1) = (d.advanceBy n).advance := rfl

/-- The last date-time stays (R167). -/
theorem DateTime.advanceBy_last (n : Nat) : DateTime.last.advanceBy n = DateTime.last := by
  induction n with
  | zero => rfl
  | succ n ih => rw [DateTime.advanceBy_succ, ih]; rfl

/-! ### The roll -/

@[simp] theorem clearDaily_clock (s : State) : (clearDaily s).clock = s.clock :=
  foldl_keeps (fun k t => t.setDaily k _) (fun t => t.clock) (fun _ _ => rfl) allKiosks s
@[simp] theorem clearDaily_tariff (s : State) : (clearDaily s).tariff = s.tariff :=
  foldl_keeps (fun k t => t.setDaily k _) (fun t => t.tariff) (fun _ _ => rfl) allKiosks s
@[simp] theorem clearDaily_depot (s : State) : (clearDaily s).depot = s.depot :=
  foldl_keeps (fun k t => t.setDaily k _) (fun t => t.depot) (fun _ _ => rfl) allKiosks s
@[simp] theorem clearDaily_journal (s : State) : (clearDaily s).journal = s.journal :=
  foldl_keeps (fun k t => t.setDaily k _) (fun t => t.journal) (fun _ _ => rfl) allKiosks s

/-- A roll judged: the held day never falls and becomes the computed one where that is higher (R168). -/
theorem judgeRoll_clock (s : State) :
    (judgeRoll s).clock = { s.clock with heldDay := max s.clock.heldDay (computedDay s) } := by
  unfold judgeRoll
  split
  · rw [Nat.max_eq_right (by omega)]; simp [dayRoll, clearOffline]
  · rw [Nat.max_eq_left (by omega)]

@[simp] theorem judgeRoll_tariff (s : State) : (judgeRoll s).tariff = s.tariff := by
  unfold judgeRoll; split <;> simp [dayRoll, clearOffline]
@[simp] theorem judgeRoll_journal (s : State) : (judgeRoll s).journal = s.journal := by
  unfold judgeRoll; split <;> simp [dayRoll, clearOffline]

/-- A roll that happens raises DAY_ROLLED (R170). -/
theorem judgeRoll_raises (s : State) (h : s.clock.heldDay < computedDay s) :
    ((judgeRoll s).depot.events[EventKind.dayRolled.no]).on = true := by
  simp only [judgeRoll, h, if_true, dayRoll, clearDaily_depot, clearOffline]
  rw [events_raise, if_pos rfl]

/-! ### The switch -/

@[simp] theorem judgeSwitch_clock (s : State) : (judgeSwitch s).clock = s.clock := by
  unfold judgeSwitch; split
  · rfl
  · split <;> simp [makeSwitch]
@[simp] theorem judgeSwitch_journal (s : State) : (judgeSwitch s).journal = s.journal := by
  unfold judgeSwitch; split
  · rfl
  · split <;> simp [makeSwitch]
@[simp] theorem judgeSwitch_daily (s : State) (j : Kiosk) : (judgeSwitch s).daily j = s.daily j := by
  unfold judgeSwitch; split
  · rfl
  · split <;> simp [makeSwitch]

/-- A switch judged: made if one is scheduled and its T has come (R172). -/
theorem judgeSwitch_tariff (s : State) :
    (judgeSwitch s).tariff =
      match s.tariff.switch with
      | none => s.tariff
      | some w => if w.minute.minutes ≤ s.clock.dateTime.minutes then s.tariff.handOver w.bank else s.tariff := by
  cases h : s.tariff.switch with
  | none => simp [judgeSwitch, h]
  | some w => simp only [judgeSwitch, h]; split <;> simp [makeSwitch]

/-! ### The clock at a new date-time, and at the end of a restart -/

theorem clockTo_clock (d : DateTime) (s : State) :
    (clockTo d s).clock =
      { s.clock with dateTime := d, heldDay := max s.clock.heldDay (serviceDay d s.settings.boundary) } := by
  simp [clockTo, judgeRoll_clock, computedDay]

theorem clockTo_tariff (d : DateTime) (s : State) :
    (clockTo d s).tariff =
      match s.tariff.switch with
      | none => s.tariff
      | some w => if w.minute.minutes ≤ d.minutes then s.tariff.handOver w.bank else s.tariff := by
  simp [clockTo, judgeSwitch_tariff, judgeRoll_clock]

@[simp] theorem clockTo_journal (d : DateTime) (s : State) : (clockTo d s).journal = s.journal := by simp [clockTo]

/-- An INVALID clock is still so after a restart, and nothing is judged (R173). -/
theorem clockAfterRestart_invalid (seconds : Nat) (s : State) (h : s.clock.state = .invalid) :
    clockAfterRestart seconds s = s := by simp [clockAfterRestart, h]

theorem clockAfterRestart_valid (seconds : Nat) (s : State) (h : s.clock.state = .valid) :
    clockAfterRestart seconds s = clockTo (s.clock.dateTime.advanceBy seconds) s := by simp [clockAfterRestart, h]

end Sys2Proof.Machine
end

