-- ==== Sys2Proof/Laws/Decode.lean ====
section
/-! SUPPORT. The fields of the formats read back what was written (R190), and the rows of the request encoder and of
the table of handlers, one equation per command. -/

namespace Sys2Proof

/-! ### Multi-byte fields (R190) -/

theorem beBytes_one (n : Nat) : beBytes 1 n = [BitVec.ofNat 8 n] := by simp [beBytes]
theorem beBytes_two (n : Nat) : beBytes 2 n = [BitVec.ofNat 8 (n / 256), BitVec.ofNat 8 n] := by simp [beBytes]
theorem beBytes_three (n : Nat) :
    beBytes 3 n = [BitVec.ofNat 8 (n / 65536), BitVec.ofNat 8 (n / 256), BitVec.ofNat 8 n] := by simp [beBytes]
theorem beBytes_four (n : Nat) :
    beBytes 4 n = [BitVec.ofNat 8 (n / 16777216), BitVec.ofNat 8 (n / 65536), BitVec.ofNat 8 (n / 256), BitVec.ofNat 8 n] := by
  simp [beBytes]

/-- The number of two fields side by side. -/
theorem toNat_concat {a b : Nat} (x : BitVec a) (y : BitVec b) : (x ++ y).toNat = x.toNat * 2 ^ b + y.toNat := by
  rw [BitVec.toNat_append, ← Nat.shiftLeft_add_eq_or_of_lt y.isLt, Nat.shiftLeft_eq]

/-- A two-byte number read from its two bytes. -/
theorem half_of_bytes {n : Nat} (h : n ≤ 65535) :
    (BitVec.ofNat 8 (n / 256) ++ BitVec.ofNat 8 n : BitVec (8 + 8)).toNat = n := by
  rw [toNat_concat]; simp only [BitVec.toNat_ofNat]; omega
/-- A three-byte number read from its three bytes. -/
theorem triple_of_bytes {n : Nat} (h : n < 16777216) :
    (BitVec.ofNat 8 (n / 65536) ++ BitVec.ofNat 8 (n / 256) ++ BitVec.ofNat 8 n : BitVec (8 + 8 + 8)).toNat = n := by
  rw [toNat_concat, toNat_concat]; simp only [BitVec.toNat_ofNat]; omega
/-- A four-byte number read from its four bytes. -/
theorem word_of_bytes {n : Nat} (h : n < 4294967296) :
    (BitVec.ofNat 8 (n / 16777216) ++ BitVec.ofNat 8 (n / 65536) ++ BitVec.ofNat 8 (n / 256) ++ BitVec.ofNat 8 n :
      BitVec (8 + 8 + 8 + 8)).toNat = n := by
  rw [toNat_concat, toNat_concat, toNat_concat]; simp only [BitVec.toNat_ofNat]; omega

/-- A two-byte field read from the bytes written for it. -/
@[simp] theorem half_bytes_back (x : Half) : (BitVec.ofNat 8 (x.toNat / 256) ++ BitVec.setWidth 8 x : BitVec (8 + 8)) = x :=
  BitVec.eq_of_toNat_eq (half_of_bytes (by have := x.isLt; omega))
/-- A three-byte field read from the bytes written for it. -/
@[simp] theorem triple_bytes_back (x : Triple) :
    (BitVec.ofNat 8 (x.toNat / 65536) ++ BitVec.ofNat 8 (x.toNat / 256) ++ BitVec.setWidth 8 x : BitVec (8 + 8 + 8)) = x :=
  BitVec.eq_of_toNat_eq (triple_of_bytes x.isLt)
/-- A four-byte field read from the bytes written for it. -/
@[simp] theorem word_bytes_back (x : Word) :
    (BitVec.ofNat 8 (x.toNat / 16777216) ++ BitVec.ofNat 8 (x.toNat / 65536) ++ BitVec.ofNat 8 (x.toNat / 256) ++
      BitVec.setWidth 8 x : BitVec (8 + 8 + 8 + 8)) = x :=
  BitVec.eq_of_toNat_eq (word_of_bytes x.isLt)

/-! ### The rows of the request encoder (Tables 12-6 and 12-7) -/

@[simp] theorem encodeRequest_coldStart (pins : Fin 32) : encodeRequest (.coldStart pins) = none := rfl
@[simp] theorem encodeRequest_resetPin (start : WarmStart) : encodeRequest (.resetPin start) = none := rfl
@[simp] theorem encodeRequest_commandRestart (start : WarmStart) : encodeRequest (.commandRestart start) = none := rfl
@[simp] theorem encodeRequest_frameAbandoned (loop : LoopId) (cause : AbandonCause) : encodeRequest (.frameAbandoned loop cause) = none := rfl
@[simp] theorem encodeRequest_missNoReply (loop : LoopId) : encodeRequest (.missNoReply loop) = none := rfl
@[simp] theorem encodeRequest_missBadCheck (loop : LoopId) : encodeRequest (.missBadCheck loop) = none := rfl
@[simp] theorem encodeRequest_missWrongAddress (loop : LoopId) : encodeRequest (.missWrongAddress loop) = none := rfl
@[simp] theorem encodeRequest_nil (loop : LoopId) (a : Bool) : encodeRequest (.nil loop a) = none := rfl
@[simp] theorem encodeRequest_malformedReply (loop : LoopId) (a : Bool) (kind : Byte) (payload : List Byte) : encodeRequest (.malformedReply loop a kind payload) = none := rfl
@[simp] theorem encodeRequest_status (loop : LoopId) (a : Bool) (door : DoorIn) (cashbox : CashboxIn) (paper : PaperIn) (service : ServiceIn) : encodeRequest (.status loop a door cashbox paper service) = none := rfl
@[simp] theorem encodeRequest_keySelect (loop : LoopId) (a : Bool) (item : SelectItem) : encodeRequest (.keySelect loop a item) = none := rfl
@[simp] theorem encodeRequest_keyConfirm (loop : LoopId) (a : Bool) : encodeRequest (.keyConfirm loop a) = none := rfl
@[simp] theorem encodeRequest_keyCancel (loop : LoopId) (a : Bool) : encodeRequest (.keyCancel loop a) = none := rfl
@[simp] theorem encodeRequest_keyReceiptYes (loop : LoopId) (a : Bool) : encodeRequest (.keyReceiptYes loop a) = none := rfl
@[simp] theorem encodeRequest_keyReceiptNo (loop : LoopId) (a : Bool) : encodeRequest (.keyReceiptNo loop a) = none := rfl
@[simp] theorem encodeRequest_coin (loop : LoopId) (a : Bool) (r1 : Nat) (r2 : Nat) (r3 : Nat) : encodeRequest (.coin loop a r1 r2 r3) = none := rfl
@[simp] theorem encodeRequest_landed (loop : LoopId) (a : Bool) (dest : Dest) : encodeRequest (.landed loop a dest) = none := rfl
@[simp] theorem encodeRequest_cardImage (loop : LoopId) (a : Bool) (image : CardImage) : encodeRequest (.cardImage loop a image) = none := rfl
@[simp] theorem encodeRequest_cardRemoval (loop : LoopId) (a : Bool) : encodeRequest (.cardRemoval loop a) = none := rfl
@[simp] theorem encodeRequest_cardResult (loop : LoopId) (a : Bool) (result : CardOutcome) (card : Nat) (counter : Nat) : encodeRequest (.cardResult loop a result card counter) = none := rfl
@[simp] theorem encodeRequest_payReport (loop : LoopId) (a : Bool) (counts : Vector Nat 6) : encodeRequest (.payReport loop a counts) = none := rfl
@[simp] theorem encodeRequest_printRdy (loop : LoopId) (a : Bool) (slots : Nat) : encodeRequest (.printRdy loop a slots) = none := rfl
@[simp] theorem encodeRequest_fill (loop : LoopId) (a : Bool) (counts : Vector Nat 6) : encodeRequest (.fill loop a counts) = none := rfl
@[simp] theorem encodeRequest_inactivityTimerExpiry (kiosk : Kiosk) : encodeRequest (.inactivityTimerExpiry kiosk) = none := rfl
@[simp] theorem encodeRequest_authorisationTimerExpiry (kiosk : Kiosk) : encodeRequest (.authorisationTimerExpiry kiosk) = none := rfl
@[simp] theorem encodeRequest_cardWriteTimerExpiry (kiosk : Kiosk) : encodeRequest (.cardWriteTimerExpiry kiosk) = none := rfl
@[simp] theorem encodeRequest_payoutTimerExpiry (kiosk : Kiosk) : encodeRequest (.payoutTimerExpiry kiosk) = none := rfl
@[simp] theorem encodeRequest_supervisionTimerExpiry : encodeRequest (.supervisionTimerExpiry) = none := rfl
@[simp] theorem encodeRequest_holdTimerExpiry : encodeRequest (.holdTimerExpiry) = none := rfl
@[simp] theorem encodeRequest_huntStepExpiry : encodeRequest (.huntStepExpiry) = none := rfl
@[simp] theorem encodeRequest_clockSecond : encodeRequest (.clockSecond) = none := rfl
@[simp] theorem encodeRequest_depotBadFrame : encodeRequest (.depotBadFrame) = none := rfl
@[simp] theorem encodeRequest_depotFrameOtherStation : encodeRequest (.depotFrameOtherStation) = none := rfl
@[simp] theorem encodeRequest_depotFrameNoReply : encodeRequest (.depotFrameNoReply) = none := rfl
@[simp] theorem encodeRequest_badKind (kind : Byte) (p : List Byte) : encodeRequest (.badKind kind p) = some (kind, p) := rfl
@[simp] theorem encodeRequest_statusRead : encodeRequest (.statusRead) = some (0x40, []) := rfl
@[simp] theorem encodeRequest_clockSet (d : DateTimeField) : encodeRequest (.clockSet d) = some (0x41, [d.year, d.month, d.day, d.hour, d.minute, d.second]) := rfl
@[simp] theorem encodeRequest_tableWriteLoop (i : Byte) (r : Byte) (e : Byte) : encodeRequest (.tableWriteLoop i r e) = some (writeBytes 0 0 i 0 [r, e]) := rfl
@[simp] theorem encodeRequest_tableWriteKiosk (i : Byte) (c : Byte) : encodeRequest (.tableWriteKiosk i c) = some (writeBytes 1 0 i 0 [c]) := rfl
@[simp] theorem encodeRequest_tableWriteCalib (i : Byte) (u : CalibUnit) : encodeRequest (.tableWriteCalib i u) = some (writeBytes 2 0 i 0 u.bytes) := rfl
@[simp] theorem encodeRequest_tableWriteCoin (i : Byte) (u : CoinUnit) : encodeRequest (.tableWriteCoin i u) = some (writeBytes 3 0 i 0 u.bytes) := rfl
@[simp] theorem encodeRequest_tableWriteTube (i : Byte) (t : Byte) (u : TubeUnit) : encodeRequest (.tableWriteTube i t u) = some (writeBytes 4 0 i t u.bytes) := rfl
@[simp] theorem encodeRequest_tableWriteSettings (i : Byte) (v : Half) : encodeRequest (.tableWriteSettings i v) = some (writeBytes 5 0 i 0 (halfBytes v)) := rfl
@[simp] theorem encodeRequest_tableWriteTemplate (i : Byte) (pl : Byte) (u : TemplateUnit) : encodeRequest (.tableWriteTemplate i pl u) = some (writeBytes 6 0 i pl u.bytes) := rfl
@[simp] theorem encodeRequest_tableWriteHeader (b : Byte) (u : HeaderUnit) : encodeRequest (.tableWriteHeader b u) = some (writeBytes 7 b 0 0 u.bytes) := rfl
@[simp] theorem encodeRequest_tableWriteProduct (b : Byte) (i : Byte) (u : ProductUnit) : encodeRequest (.tableWriteProduct b i u) = some (writeBytes 8 b i 0 u.bytes) := rfl
@[simp] theorem encodeRequest_tableWriteFare (b : Byte) (i : Byte) (cells : List Half) : encodeRequest (.tableWriteFare b i cells) = some (writeBytes 9 b i 0 (halvesBytes cells)) := rfl
@[simp] theorem encodeRequest_tableWriteBand (b : Byte) (i : Byte) (factors : List Half) : encodeRequest (.tableWriteBand b i factors) = some (writeBytes 10 b i 0 (halvesBytes factors)) := rfl
@[simp] theorem encodeRequest_tableWriteDayplan (b : Byte) (i : Byte) (u : DayplanUnit) : encodeRequest (.tableWriteDayplan b i u) = some (writeBytes 11 b i 0 u.bytes) := rfl
@[simp] theorem encodeRequest_tableWriteClass (b : Byte) (i : Byte) (percents : List Byte) : encodeRequest (.tableWriteClass b i percents) = some (writeBytes 12 b i 0 percents) := rfl
@[simp] theorem encodeRequest_tableWriteHoliday (b : Byte) (i : Byte) (u : HolidayUnit) : encodeRequest (.tableWriteHoliday b i u) = some (writeBytes 13 b i 0 u.bytes) := rfl
@[simp] theorem encodeRequest_tableReadLoop (i : Byte) : encodeRequest (.tableReadLoop i) = some (readBytes 0 0 i 0) := rfl
@[simp] theorem encodeRequest_tableReadKiosk (i : Byte) : encodeRequest (.tableReadKiosk i) = some (readBytes 1 0 i 0) := rfl
@[simp] theorem encodeRequest_tableReadCalib (i : Byte) : encodeRequest (.tableReadCalib i) = some (readBytes 2 0 i 0) := rfl
@[simp] theorem encodeRequest_tableReadCoin (i : Byte) : encodeRequest (.tableReadCoin i) = some (readBytes 3 0 i 0) := rfl
@[simp] theorem encodeRequest_tableReadTube (i : Byte) : encodeRequest (.tableReadTube i) = some (readBytes 4 0 i 0) := rfl
@[simp] theorem encodeRequest_tableReadSettings : encodeRequest (.tableReadSettings) = some (readBytes 5 0 0 0) := rfl
@[simp] theorem encodeRequest_tableReadTemplate (i : Byte) (pl : Byte) : encodeRequest (.tableReadTemplate i pl) = some (readBytes 6 0 i pl) := rfl
@[simp] theorem encodeRequest_tableReadBanked (t : BankedTable) (b : Byte) (i : Byte) : encodeRequest (.tableReadBanked t b i) = some (readBytes t.code b i 0) := rfl
@[simp] theorem encodeRequest_bankSwitch (b : Byte) (t : MinuteField) : encodeRequest (.bankSwitch b t) = some (0x44, [b, t.year, t.month, t.day, t.hour, t.minute]) := rfl
@[simp] theorem encodeRequest_switchCancel : encodeRequest (.switchCancel) = some (0x45, []) := rfl
@[simp] theorem encodeRequest_stoplistAdd (n : Word) : encodeRequest (.stoplistAdd n) = some (0x46, wordBytes n) := rfl
@[simp] theorem encodeRequest_stoplistRemove (n : Word) : encodeRequest (.stoplistRemove n) = some (0x47, wordBytes n) := rfl
@[simp] theorem encodeRequest_stoplistClear : encodeRequest (.stoplistClear) = some (0x48, []) := rfl
@[simp] theorem encodeRequest_journalRead : encodeRequest (.journalRead) = some (0x49, []) := rfl
@[simp] theorem encodeRequest_journalPop : encodeRequest (.journalPop) = some (0x4A, []) := rfl
@[simp] theorem encodeRequest_authFetch : encodeRequest (.authFetch) = some (0x4B, []) := rfl
@[simp] theorem encodeRequest_authAnswer (k : Byte) (s : Half) (a : Byte) (d : Byte) : encodeRequest (.authAnswer k s a d) = some (0x4C, [k] ++ halfBytes s ++ [a, d]) := rfl
@[simp] theorem encodeRequest_eventsRead : encodeRequest (.eventsRead) = some (0x4D, []) := rfl
@[simp] theorem encodeRequest_eventsClear (e : Word) : encodeRequest (.eventsClear e) = some (0x4E, wordBytes e) := rfl
@[simp] theorem encodeRequest_eventsMask (e : Word) : encodeRequest (.eventsMask e) = some (0x4F, wordBytes e) := rfl
@[simp] theorem encodeRequest_kioskControlInService (k : Byte) : encodeRequest (.kioskControlInService k) = some (0x50, [k, 0]) := rfl
@[simp] theorem encodeRequest_kioskControlOutOfService (k : Byte) : encodeRequest (.kioskControlOutOfService k) = some (0x50, [k, 1]) := rfl
@[simp] theorem encodeRequest_kioskControlBlock (k : Byte) : encodeRequest (.kioskControlBlock k) = some (0x50, [k, 2]) := rfl
@[simp] theorem encodeRequest_kioskControlRelease (k : Byte) : encodeRequest (.kioskControlRelease k) = some (0x50, [k, 3]) := rfl
@[simp] theorem encodeRequest_kioskControlModeLatched (k : Byte) : encodeRequest (.kioskControlModeLatched k) = some (0x50, [k, 4]) := rfl
@[simp] theorem encodeRequest_kioskControlModeFollowing (k : Byte) : encodeRequest (.kioskControlModeFollowing k) = some (0x50, [k, 5]) := rfl
@[simp] theorem encodeRequest_kioskRead (k : Byte) : encodeRequest (.kioskRead k) = some (0x51, [k]) := rfl
@[simp] theorem encodeRequest_floatSet (f : Triple) : encodeRequest (.floatSet f) = some (0x52, tripleBytes f) := rfl
@[simp] theorem encodeRequest_modeSetLoading : encodeRequest (.modeSetLoading) = some (0x53, [0]) := rfl
@[simp] theorem encodeRequest_modeSetSelling : encodeRequest (.modeSetSelling) = some (0x53, [1]) := rfl
@[simp] theorem encodeRequest_modeSetSuspended : encodeRequest (.modeSetSuspended) = some (0x53, [2]) := rfl
@[simp] theorem encodeRequest_restart : encodeRequest (.restart) = some (0x54, []) := rfl

end Sys2Proof

namespace Sys2Proof.Machine

/-! ### The handlers of the requests (Table 11-3) -/

@[simp] theorem handlerOf_coldStart (pins : Fin 32) : handlerOf (.coldStart pins) = none := rfl
@[simp] theorem handlerOf_resetPin (start : WarmStart) : handlerOf (.resetPin start) = none := rfl
@[simp] theorem handlerOf_commandRestart (start : WarmStart) : handlerOf (.commandRestart start) = none := rfl
@[simp] theorem handlerOf_frameAbandoned (loop : LoopId) (cause : AbandonCause) : handlerOf (.frameAbandoned loop cause) = none := rfl
@[simp] theorem handlerOf_missNoReply (loop : LoopId) : handlerOf (.missNoReply loop) = none := rfl
@[simp] theorem handlerOf_missBadCheck (loop : LoopId) : handlerOf (.missBadCheck loop) = none := rfl
@[simp] theorem handlerOf_missWrongAddress (loop : LoopId) : handlerOf (.missWrongAddress loop) = none := rfl
@[simp] theorem handlerOf_nil (loop : LoopId) (a : Bool) : handlerOf (.nil loop a) = none := rfl
@[simp] theorem handlerOf_malformedReply (loop : LoopId) (a : Bool) (kind : Byte) (payload : List Byte) : handlerOf (.malformedReply loop a kind payload) = none := rfl
@[simp] theorem handlerOf_status (loop : LoopId) (a : Bool) (door : DoorIn) (cashbox : CashboxIn) (paper : PaperIn) (service : ServiceIn) : handlerOf (.status loop a door cashbox paper service) = none := rfl
@[simp] theorem handlerOf_keySelect (loop : LoopId) (a : Bool) (item : SelectItem) : handlerOf (.keySelect loop a item) = none := rfl
@[simp] theorem handlerOf_keyConfirm (loop : LoopId) (a : Bool) : handlerOf (.keyConfirm loop a) = none := rfl
@[simp] theorem handlerOf_keyCancel (loop : LoopId) (a : Bool) : handlerOf (.keyCancel loop a) = none := rfl
@[simp] theorem handlerOf_keyReceiptYes (loop : LoopId) (a : Bool) : handlerOf (.keyReceiptYes loop a) = none := rfl
@[simp] theorem handlerOf_keyReceiptNo (loop : LoopId) (a : Bool) : handlerOf (.keyReceiptNo loop a) = none := rfl
@[simp] theorem handlerOf_coin (loop : LoopId) (a : Bool) (r1 : Nat) (r2 : Nat) (r3 : Nat) : handlerOf (.coin loop a r1 r2 r3) = none := rfl
@[simp] theorem handlerOf_landed (loop : LoopId) (a : Bool) (dest : Dest) : handlerOf (.landed loop a dest) = none := rfl
@[simp] theorem handlerOf_cardImage (loop : LoopId) (a : Bool) (image : CardImage) : handlerOf (.cardImage loop a image) = none := rfl
@[simp] theorem handlerOf_cardRemoval (loop : LoopId) (a : Bool) : handlerOf (.cardRemoval loop a) = none := rfl
@[simp] theorem handlerOf_cardResult (loop : LoopId) (a : Bool) (result : CardOutcome) (card : Nat) (counter : Nat) : handlerOf (.cardResult loop a result card counter) = none := rfl
@[simp] theorem handlerOf_payReport (loop : LoopId) (a : Bool) (counts : Vector Nat 6) : handlerOf (.payReport loop a counts) = none := rfl
@[simp] theorem handlerOf_printRdy (loop : LoopId) (a : Bool) (slots : Nat) : handlerOf (.printRdy loop a slots) = none := rfl
@[simp] theorem handlerOf_fill (loop : LoopId) (a : Bool) (counts : Vector Nat 6) : handlerOf (.fill loop a counts) = none := rfl
@[simp] theorem handlerOf_inactivityTimerExpiry (kiosk : Kiosk) : handlerOf (.inactivityTimerExpiry kiosk) = none := rfl
@[simp] theorem handlerOf_authorisationTimerExpiry (kiosk : Kiosk) : handlerOf (.authorisationTimerExpiry kiosk) = none := rfl
@[simp] theorem handlerOf_cardWriteTimerExpiry (kiosk : Kiosk) : handlerOf (.cardWriteTimerExpiry kiosk) = none := rfl
@[simp] theorem handlerOf_payoutTimerExpiry (kiosk : Kiosk) : handlerOf (.payoutTimerExpiry kiosk) = none := rfl
@[simp] theorem handlerOf_supervisionTimerExpiry : handlerOf (.supervisionTimerExpiry) = none := rfl
@[simp] theorem handlerOf_holdTimerExpiry : handlerOf (.holdTimerExpiry) = none := rfl
@[simp] theorem handlerOf_huntStepExpiry : handlerOf (.huntStepExpiry) = none := rfl
@[simp] theorem handlerOf_clockSecond : handlerOf (.clockSecond) = none := rfl
@[simp] theorem handlerOf_depotBadFrame : handlerOf (.depotBadFrame) = none := rfl
@[simp] theorem handlerOf_depotFrameOtherStation : handlerOf (.depotFrameOtherStation) = none := rfl
@[simp] theorem handlerOf_depotFrameNoReply : handlerOf (.depotFrameNoReply) = none := rfl
@[simp] theorem handlerOf_badKind (kind : Byte) (payload : List Byte) : handlerOf (.badKind kind payload) = none := rfl
@[simp] theorem handlerOf_statusRead : handlerOf (.statusRead) = some doStatusRead := rfl
@[simp] theorem handlerOf_clockSet (d : DateTimeField) : handlerOf (.clockSet d) = some (doClockSet d) := rfl
@[simp] theorem handlerOf_tableWriteLoop (i : Byte) (r : Byte) (e : Byte) : handlerOf (.tableWriteLoop i r e) = some (doWriteLoop i r e) := rfl
@[simp] theorem handlerOf_tableWriteKiosk (i : Byte) (c : Byte) : handlerOf (.tableWriteKiosk i c) = some (doWriteKiosk i c) := rfl
@[simp] theorem handlerOf_tableWriteCalib (i : Byte) (u : CalibUnit) : handlerOf (.tableWriteCalib i u) = some (doWriteCalib i u) := rfl
@[simp] theorem handlerOf_tableWriteCoin (i : Byte) (u : CoinUnit) : handlerOf (.tableWriteCoin i u) = some (doWriteCoin i u) := rfl
@[simp] theorem handlerOf_tableWriteTube (i : Byte) (t : Byte) (u : TubeUnit) : handlerOf (.tableWriteTube i t u) = some (doWriteTube i t u) := rfl
@[simp] theorem handlerOf_tableWriteSettings (i : Byte) (v : Half) : handlerOf (.tableWriteSettings i v) = some (doWriteSettings i v) := rfl
@[simp] theorem handlerOf_tableWriteTemplate (i : Byte) (p : Byte) (u : TemplateUnit) : handlerOf (.tableWriteTemplate i p u) = some (doWriteTemplate i p u) := rfl
@[simp] theorem handlerOf_tableWriteHeader (b : Byte) (u : HeaderUnit) : handlerOf (.tableWriteHeader b u) = some (doWriteHeader b u) := rfl
@[simp] theorem handlerOf_tableWriteProduct (b : Byte) (i : Byte) (u : ProductUnit) : handlerOf (.tableWriteProduct b i u) = some (doWriteProduct b i u) := rfl
@[simp] theorem handlerOf_tableWriteFare (b : Byte) (i : Byte) (c : List Half) : handlerOf (.tableWriteFare b i c) = some (doWriteFare b i c) := rfl
@[simp] theorem handlerOf_tableWriteBand (b : Byte) (i : Byte) (f : List Half) : handlerOf (.tableWriteBand b i f) = some (doWriteBand b i f) := rfl
@[simp] theorem handlerOf_tableWriteDayplan (b : Byte) (i : Byte) (u : DayplanUnit) : handlerOf (.tableWriteDayplan b i u) = some (doWriteDayplan b i u) := rfl
@[simp] theorem handlerOf_tableWriteClass (b : Byte) (i : Byte) (p : List Byte) : handlerOf (.tableWriteClass b i p) = some (doWriteClass b i p) := rfl
@[simp] theorem handlerOf_tableWriteHoliday (b : Byte) (i : Byte) (u : HolidayUnit) : handlerOf (.tableWriteHoliday b i u) = some (doWriteHoliday b i u) := rfl
@[simp] theorem handlerOf_tableReadLoop (i : Byte) : handlerOf (.tableReadLoop i) = some (doReadLoop i) := rfl
@[simp] theorem handlerOf_tableReadKiosk (i : Byte) : handlerOf (.tableReadKiosk i) = some (doReadKiosk i) := rfl
@[simp] theorem handlerOf_tableReadCalib (i : Byte) : handlerOf (.tableReadCalib i) = some (doReadCalib i) := rfl
@[simp] theorem handlerOf_tableReadCoin (i : Byte) : handlerOf (.tableReadCoin i) = some (doReadCoin i) := rfl
@[simp] theorem handlerOf_tableReadTube (i : Byte) : handlerOf (.tableReadTube i) = some (doReadTube i) := rfl
@[simp] theorem handlerOf_tableReadSettings : handlerOf (.tableReadSettings) = some doReadSettings := rfl
@[simp] theorem handlerOf_tableReadTemplate (i : Byte) (p : Byte) : handlerOf (.tableReadTemplate i p) = some (doReadTemplate i p) := rfl
@[simp] theorem handlerOf_tableReadBanked (t : BankedTable) (b : Byte) (i : Byte) : handlerOf (.tableReadBanked t b i) = some (doReadBanked t b i) := rfl
@[simp] theorem handlerOf_bankSwitch (b : Byte) (m : MinuteField) : handlerOf (.bankSwitch b m) = some (doBankSwitch b m) := rfl
@[simp] theorem handlerOf_switchCancel : handlerOf (.switchCancel) = some doSwitchCancel := rfl
@[simp] theorem handlerOf_stoplistAdd (n : Word) : handlerOf (.stoplistAdd n) = some (doStoplistAdd n) := rfl
@[simp] theorem handlerOf_stoplistRemove (n : Word) : handlerOf (.stoplistRemove n) = some (doStoplistRemove n) := rfl
@[simp] theorem handlerOf_stoplistClear : handlerOf (.stoplistClear) = some doStoplistClear := rfl
@[simp] theorem handlerOf_journalRead : handlerOf (.journalRead) = some doJournalRead := rfl
@[simp] theorem handlerOf_journalPop : handlerOf (.journalPop) = some doJournalPop := rfl
@[simp] theorem handlerOf_authFetch : handlerOf (.authFetch) = some doAuthFetch := rfl
@[simp] theorem handlerOf_authAnswer (k : Byte) (s : Half) (a : Byte) (d : Byte) : handlerOf (.authAnswer k s a d) = some (doAuthAnswer k s a d) := rfl
@[simp] theorem handlerOf_eventsRead : handlerOf (.eventsRead) = some doEventsRead := rfl
@[simp] theorem handlerOf_eventsClear (e : Word) : handlerOf (.eventsClear e) = some (doEventsClear e) := rfl
@[simp] theorem handlerOf_eventsMask (e : Word) : handlerOf (.eventsMask e) = some (doEventsMask e) := rfl
@[simp] theorem handlerOf_kioskControlInService (k : Byte) : handlerOf (.kioskControlInService k) = some (doInService k) := rfl
@[simp] theorem handlerOf_kioskControlOutOfService (k : Byte) : handlerOf (.kioskControlOutOfService k) = some (doOutOfService k) := rfl
@[simp] theorem handlerOf_kioskControlBlock (k : Byte) : handlerOf (.kioskControlBlock k) = some (doBlock k) := rfl
@[simp] theorem handlerOf_kioskControlRelease (k : Byte) : handlerOf (.kioskControlRelease k) = some (doRelease k) := rfl
@[simp] theorem handlerOf_kioskControlModeLatched (k : Byte) : handlerOf (.kioskControlModeLatched k) = some (doModeLatched k) := rfl
@[simp] theorem handlerOf_kioskControlModeFollowing (k : Byte) : handlerOf (.kioskControlModeFollowing k) = some (doModeFollowing k) := rfl
@[simp] theorem handlerOf_kioskRead (k : Byte) : handlerOf (.kioskRead k) = some (doKioskRead k) := rfl
@[simp] theorem handlerOf_floatSet (f : Triple) : handlerOf (.floatSet f) = some (doFloatSet f) := rfl
@[simp] theorem handlerOf_modeSetLoading : handlerOf (.modeSetLoading) = some doModeLoading := rfl
@[simp] theorem handlerOf_modeSetSelling : handlerOf (.modeSetSelling) = some doModeSelling := rfl
@[simp] theorem handlerOf_modeSetSuspended : handlerOf (.modeSetSuspended) = some doModeSuspended := rfl
@[simp] theorem handlerOf_restart : handlerOf (.restart) = some doRestart := rfl

end Sys2Proof.Machine
end

