-- ==== Sys2Proof/Laws/Depot.lean ====
section
/-! SUPPORT. What a request frame does before and after its handler: the link supervision leaves every other block
alone, and a request that is heard is its handler's effect with the reply sent. -/

namespace Sys2Proof.Machine

/-! ### The link supervision of a frame to this station (R176, R177) -/

@[simp] theorem frameForStation_ctx (s : State) (k : Kiosk) : (frameForStation s).ctx k = s.ctx k := by
  unfold frameForStation; split <;> rfl
@[simp] theorem frameForStation_kiosks (s : State) : (frameForStation s).kiosks = s.kiosks := by
  unfold frameForStation; split <;> rfl
@[simp] theorem frameForStation_link (s : State) (k : Kiosk) : (frameForStation s).link k = s.link k := by
  unfold frameForStation; split <;> rfl
@[simp] theorem frameForStation_coin (s : State) (k : Kiosk) : (frameForStation s).coin k = s.coin k := by
  unfold frameForStation; split <;> rfl
@[simp] theorem frameForStation_cash (s : State) (k : Kiosk) : (frameForStation s).cash k = s.cash k := by
  unfold frameForStation; split <;> rfl
@[simp] theorem frameForStation_sess (s : State) (k : Kiosk) : (frameForStation s).sess k = s.sess k := by
  unfold frameForStation; split <;> rfl
@[simp] theorem frameForStation_disp (s : State) (k : Kiosk) : (frameForStation s).disp k = s.disp k := by
  unfold frameForStation; split <;> rfl
@[simp] theorem frameForStation_svc (s : State) (k : Kiosk) : (frameForStation s).svc k = s.svc k := by
  unfold frameForStation; split <;> rfl
@[simp] theorem frameForStation_kcard (s : State) (k : Kiosk) : (frameForStation s).kcard k = s.kcard k := by
  unfold frameForStation; split <;> rfl
@[simp] theorem frameForStation_jobs (s : State) (k : Kiosk) : (frameForStation s).jobs k = s.jobs k := by
  unfold frameForStation; split <;> rfl
@[simp] theorem frameForStation_daily (s : State) (k : Kiosk) : (frameForStation s).daily k = s.daily k := by
  unfold frameForStation; split <;> rfl
@[simp] theorem frameForStation_pending (s : State) : (frameForStation s).pending = s.pending := by
  unfold frameForStation; split <;> rfl
@[simp] theorem frameForStation_loop (s : State) (l : LoopId) : (frameForStation s).loop l = s.loop l := by
  unfold frameForStation; split <;> cases l <;> rfl
@[simp] theorem frameForStation_coins (s : State) : (frameForStation s).coins = s.coins := by
  unfold frameForStation; split <;> rfl
@[simp] theorem frameForStation_tariff (s : State) : (frameForStation s).tariff = s.tariff := by
  unfold frameForStation; split <;> rfl
@[simp] theorem frameForStation_templates (s : State) : (frameForStation s).templates = s.templates := by
  unfold frameForStation; split <;> rfl
@[simp] theorem frameForStation_settings (s : State) : (frameForStation s).settings = s.settings := by
  unfold frameForStation; split <;> rfl
@[simp] theorem frameForStation_journal (s : State) : (frameForStation s).journal = s.journal := by
  unfold frameForStation; split <;> rfl
@[simp] theorem frameForStation_clock (s : State) : (frameForStation s).clock = s.clock := by
  unfold frameForStation; split <;> rfl
@[simp] theorem frameForStation_stopList (s : State) : (frameForStation s).cards.stopList = s.cards.stopList := by
  unfold frameForStation; split <;> rfl
@[simp] theorem frameForStation_authList (s : State) : (frameForStation s).cards.authList = s.cards.authList := by
  unfold frameForStation; split <;> rfl
@[simp] theorem frameForStation_float (s : State) :
    (frameForStation s).cards.floatSet = s.cards.floatSet ∧ (frameForStation s).cards.floatRemaining = s.cards.floatRemaining ∧
      (frameForStation s).cards.delivered = s.cards.delivered ∧ (frameForStation s).cards.floatLow = s.cards.floatLow := by
  unfold frameForStation; split <;> exact ⟨rfl, rfl, rfl, rfl⟩
@[simp] theorem frameForStation_station (s : State) : (frameForStation s).depot.station = s.depot.station := by
  unfold frameForStation; split <;> rfl
@[simp] theorem frameForStation_mode (s : State) : (frameForStation s).depot.mode = s.depot.mode := by
  unfold frameForStation; split <;> rfl
@[simp] theorem frameForStation_unmasked (s : State) : (frameForStation s).depot.unmasked = s.depot.unmasked := by
  unfold frameForStation; split <;> rfl
@[simp] theorem frameForStation_restartOwed (s : State) : (frameForStation s).depot.restartOwed = s.depot.restartOwed := by
  unfold frameForStation; split <;> rfl
@[simp] theorem frameForStation_heldTotal (s : State) : (frameForStation s).heldTotal = s.heldTotal := by
  simp [State.heldTotal]

/-! ### A request that is heard (R175, R179) -/

/-- The reply frame of a state does not depend on the reply frame it holds. -/
theorem replyFrame_withReply (kind : Byte) (a : Answer) (s : State) (k2 : Byte) (st : Status) (d : List Byte) :
    replyFrame kind a (s.withReply k2 st d) = replyFrame kind a s := rfl

/-- A request that is heard: the frame supervises the link, the handler acts, and its answer is sent (R175–R179). -/
theorem depotRequest_heard {s : State} (h : s.hears) (kind : Byte) (hd : Handler) :
    depotRequest kind hd s =
      (hd (frameForStation s)).1.withReply kind (hd (frameForStation s)).2.status (hd (frameForStation s)).2.data := by
  simp [depotRequest, received, h.1, h.2, State.withReply]

@[simp] theorem withReply_ctx (s : State) (kind : Byte) (st : Status) (d : List Byte) (k : Kiosk) :
    (s.withReply kind st d).ctx k = s.ctx k := rfl
@[simp] theorem withReply_link (s : State) (kind : Byte) (st : Status) (d : List Byte) (k : Kiosk) :
    (s.withReply kind st d).link k = s.link k := rfl
@[simp] theorem withReply_coin (s : State) (kind : Byte) (st : Status) (d : List Byte) (k : Kiosk) :
    (s.withReply kind st d).coin k = s.coin k := rfl
@[simp] theorem withReply_cash (s : State) (kind : Byte) (st : Status) (d : List Byte) (k : Kiosk) :
    (s.withReply kind st d).cash k = s.cash k := rfl
@[simp] theorem withReply_sess (s : State) (kind : Byte) (st : Status) (d : List Byte) (k : Kiosk) :
    (s.withReply kind st d).sess k = s.sess k := rfl
@[simp] theorem withReply_disp (s : State) (kind : Byte) (st : Status) (d : List Byte) (k : Kiosk) :
    (s.withReply kind st d).disp k = s.disp k := rfl
@[simp] theorem withReply_svc (s : State) (kind : Byte) (st : Status) (d : List Byte) (k : Kiosk) :
    (s.withReply kind st d).svc k = s.svc k := rfl
@[simp] theorem withReply_jobs (s : State) (kind : Byte) (st : Status) (d : List Byte) (k : Kiosk) :
    (s.withReply kind st d).jobs k = s.jobs k := rfl
@[simp] theorem withReply_kcard (s : State) (kind : Byte) (st : Status) (d : List Byte) (k : Kiosk) :
    (s.withReply kind st d).kcard k = s.kcard k := rfl
@[simp] theorem withReply_daily (s : State) (kind : Byte) (st : Status) (d : List Byte) (k : Kiosk) :
    (s.withReply kind st d).daily k = s.daily k := rfl
@[simp] theorem withReply_loop (s : State) (kind : Byte) (st : Status) (d : List Byte) (l : LoopId) :
    (s.withReply kind st d).loop l = s.loop l := by cases l <;> rfl
@[simp] theorem withReply_shared (s : State) (kind : Byte) (st : Status) (d : List Byte) :
    (s.withReply kind st d).pending = s.pending ∧ (s.withReply kind st d).coins = s.coins ∧
      (s.withReply kind st d).tariff = s.tariff ∧ (s.withReply kind st d).cards = s.cards ∧
      (s.withReply kind st d).templates = s.templates ∧ (s.withReply kind st d).settings = s.settings ∧
      (s.withReply kind st d).journal = s.journal ∧ (s.withReply kind st d).clock = s.clock ∧
      (s.withReply kind st d).kiosks = s.kiosks :=
  ⟨rfl, rfl, rfl, rfl, rfl, rfl, rfl, rfl, rfl⟩
@[simp] theorem withReply_depot (s : State) (kind : Byte) (st : Status) (d : List Byte) :
    (s.withReply kind st d).depot.events = s.depot.events ∧ (s.withReply kind st d).depot.unmasked = s.depot.unmasked ∧
      (s.withReply kind st d).depot.mode = s.depot.mode ∧ (s.withReply kind st d).depot.link = s.depot.link ∧
      (s.withReply kind st d).depot.station = s.depot.station ∧
      (s.withReply kind st d).depot.restartOwed = s.depot.restartOwed :=
  ⟨rfl, rfl, rfl, rfl, rfl, rfl⟩

/-- The reply that an answered state holds is the reply frame of that state itself. -/
theorem withReply_reply (s : State) (kind : Byte) (st : Status) (d : List Byte) :
    (s.withReply kind st d).depot.reply =
      some (replyFrame kind { status := st, data := d } (s.withReply kind st d)) := rfl

/-- A byte that names index `i` is read as it. -/
theorem finOf_eq {n m : Nat} {i : Fin n} (h : m = i.val) : finOf n m = some i := by
  subst h; simp [finOf]

/-- A letter names the bank it is the letter of. -/
@[simp] theorem bankOf_letter (i : BankId) : bankOf i.letter = some i := by cases i <;> rfl

end Sys2Proof.Machine
end

