-- ==== Sys2Proof/Tests/Slice0.lean ====
section
/-! SUPPORT. Tests of the model on fixed values: the refusals of `Instr.wellFormed`, payloads written out from the
tables of chapter 12, the worked examples of the manual, and, for each statement with hypotheses, a concrete state and
operands that meet them (`witness_` and the statement's name). -/

set_option Elab.async false

open Sys2Proof Sys2Proof.Machine

namespace Sys2Proof.Tests

/-! ### Small states -/

/-- The state a command answers. -/
def after (c : Instr) (s : State) : State :=
  match exec c s with
  | .next t => t
  | _ => s

/-- The status byte of the reply a request earned. -/
def statusByte (s : State) : Option Byte := s.depot.reply.bind (fun r => r[5]?)

/-- A header with step 10, fee 20, top-ups 500 to 5,000, card maximum 15,000 (the header of section 4.4, top-ups). -/
def header : Header :=
  { step := 10, maxSale := 9999, fee := 20, topupMin := 500, topupMax := 5000, cardMax := 15000, offlineLimit := 3000,
    denominations := [500, 1000, 2000, 6000, 0, 0, 0, 0] }

/-- A part that sells: bank A ACTIVE, the clock VALID at 2024-03-04 07:40, part mode SELLING, the depot link ONLINE. -/
def selling : State :=
  { State.reset with
    tariff := { State.reset.tariff with bankA := { Bank.cold with state := .active, header := some header } },
    clock := { dateTime := ⟨2024, 3, 4, 7, 40, 0⟩, state := .valid, heldDay := 8829 },
    depot := { State.reset.depot with mode := .selling, link := .online .r9600 } }

/-- Kiosk `k` PRESENT and polled, its context changed by `f`. -/
def polled (k : Kiosk) (f : KioskCtx → KioskCtx) : State :=
  (selling.setLoop (loopOf k) { selling.loop (loopOf k) with
      exchange := some { kiosk := k, poll := .poll, rate := .r38400, frame := [] } }).upd k
    (fun c => f { c with link := { c.link with state := .present } })

/-- A session at a state. -/
def inState (st : SessState) : KioskCtx → KioskCtx := fun c => { c with sess := { c.sess with state := st, serial := 7 } }

/-- A price record of a paper sale. -/
def priced (due : Nat) : PriceRecord :=
  { due := due, bank := .a,
    detail := .sale { code := 210, name := [0x44#8], kind := .single, days := 0, carriers := .both, template := 5 } .weekday 0 }

/-- A price record of a top-up. -/
def pricedTopup (amount : Nat) : PriceRecord := { due := amount + 20, bank := .a, detail := .topup amount 20 }

/-- A session in PAYING for a due, with a credit. -/
def paying (due credit : Nat) : KioskCtx → KioskCtx := fun c =>
  { c with sess := { c.sess with state := .paying, serial := 7, fixed := some (priced due), credit := credit,
                                 tInactivity := some 45 } }

/-- A tube of a coin type with a count. -/
def tubeAt (t : CoinType) (count : Nat) : Tube :=
  { coinType := some t, capacity := 100, count := count, lowMark := 5, state := .payable, lowFlag := false }

/-- The coin entry of index 4 of the worked classification (section 2.3). -/
def fifty : CoinEntry :=
  { value := 50, low1 := 60, high1 := 70, low2 := 84, high2 := 92, low3 := 12, high3 := 18, use := .accept }
/-- The coin entry of index 2 of the worked classification (section 2.3). -/
def twenty : CoinEntry :=
  { value := 20, low1 := 40, high1 := 52, low2 := 70, high2 := 80, low3 := 10, high3 := 14, use := .accept }
/-- The coin table of the worked classification. -/
def coinTable : Vector (Option CoinEntry) 16 := ((Vector.replicate 16 none).set 4 (some fifty)).set 2 (some twenty)
/-- The calibration of the worked classification. -/
def calibrated : KioskCtx → KioskCtx := fun c =>
  { c with coin := { c.coin with calib1 := ⟨100, 1⟩, calib2 := ⟨80, 2⟩, calib3 := ⟨40, 0⟩ } }

/-- An accepted 50 in flight. -/
def accepted50 : Flight :=
  { coinType := some 4, credit := some 50, route := .escrow, reason := .none, gateTaken := true, released := false }

/-- A card. -/
def card5001 : CardImage := { number := 5001, cls := .adult, balance := 0, counter := 5, pass := none }
/-- The write of a top-up of 2000 on that card. -/
def write5001 : CardWrite := { card := 5001, expected := 5, counter := 6, balance := 2000, pass := none, single := none }

/-- A list of bytes of one value. -/
def bytes (n : Nat) (b : Byte) : List Byte := List.replicate n b

/-! ### Well-formedness: each check refuses an ill-formed command (Tables 7-1, 12-4 and 12-7) -/

theorem test_wellFormed_product_code :
    (Instr.keySelect .a true (.product 0)).wellFormed = false ∧ (Instr.keySelect .a true (.product 10000)).wellFormed = false ∧
      (Instr.keySelect .a true (.product 9999)).wellFormed = true := by decide
theorem test_wellFormed_topup_amount :
    (Instr.keySelect .a true (.topup 50001)).wellFormed = false ∧ (Instr.keySelect .a true (.topup 50000)).wellFormed = true := by decide
theorem test_wellFormed_zone_count : (Instr.keySelect .b true (.zones 65536)).wellFormed = false := by decide
theorem test_wellFormed_quantity : (Instr.keySelect .b true (.quantity 65536)).wellFormed = false := by decide
theorem test_wellFormed_malformed_payload : (Instr.malformedReply .a true 0x21 (bytes 241 0)).wellFormed = false := by decide +kernel
theorem test_wellFormed_coin : (Instr.coin .a true 1024 0 0).wellFormed = false ∧ (Instr.coin .a true 0 1024 0).wellFormed = false ∧
    (Instr.coin .a true 0 0 1024).wellFormed = false ∧ (Instr.coin .a true 1023 1023 1023).wellFormed = true := by decide
theorem test_wellFormed_card_number : (Instr.cardImage .a true { card5001 with number := 0 }).wellFormed = false := by decide
theorem test_wellFormed_card_balance : (Instr.cardImage .a true { card5001 with balance := 100000 }).wellFormed = false := by decide
theorem test_wellFormed_card_counter : (Instr.cardImage .a true { card5001 with counter := 65536 }).wellFormed = false := by decide
theorem test_wellFormed_pass_dates :
    (Instr.cardImage .a true { card5001 with pass := some ⟨210, 3, 8830, 8829⟩ }).wellFormed = false ∧
      (Instr.cardImage .a true { card5001 with pass := some ⟨210, 3, 8829, 8829⟩ }).wellFormed = true := by decide
theorem test_wellFormed_pass_zones :
    (Instr.cardImage .a true { card5001 with pass := some ⟨210, 9, 8829, 8829⟩ }).wellFormed = false := by decide
theorem test_wellFormed_cardResult :
    (Instr.cardResult .a true .done (2 ^ 32) 0).wellFormed = false ∧ (Instr.cardResult .a true .done 1 65536).wellFormed = false := by decide
theorem test_wellFormed_payReport : (Instr.payReport .a true #v[251, 0, 0, 0, 0, 0]).wellFormed = false := by decide
theorem test_wellFormed_fill : (Instr.fill .a true #v[0, 0, 0, 0, 0, 251]).wellFormed = false ∧
    (Instr.fill .a true #v[250, 250, 250, 250, 250, 250]).wellFormed = true := by decide
theorem test_wellFormed_printRdy :
    (Instr.printRdy .a true 0).wellFormed = false ∧ (Instr.printRdy .a true 9).wellFormed = false ∧
      (Instr.printRdy .a true 8).wellFormed = true := by decide
theorem test_wellFormed_badKind :
    (Instr.badKind 0x80 []).wellFormed = false ∧ (Instr.badKind 0x7F (bytes 241 0)).wellFormed = false := by decide +kernel
theorem test_wellFormed_template : (Instr.tableWriteTemplate 0 0 ⟨0, 0, bytes 31 0⟩).wellFormed = false := by decide
theorem test_wellFormed_header : (Instr.tableWriteHeader 0x41 ⟨1, 5, 9999, 20, 500, 5000, 20000, 3000, [1000]⟩).wellFormed = false := by decide
theorem test_wellFormed_product :
    (Instr.tableWriteProduct 0x41 0 ⟨1, 210, bytes 19 0x41, 1, 1, 0, 2, 0, 1, 15, 5, 9⟩).wellFormed = false := by decide
theorem test_wellFormed_fare : (Instr.tableWriteFare 0x41 0 [540]).wellFormed = false := by decide
theorem test_wellFormed_band : (Instr.tableWriteBand 0x41 0 [1000]).wellFormed = false := by decide
theorem test_wellFormed_dayplan : (Instr.tableWriteDayplan 0x41 0 ⟨1, [⟨0, 0⟩]⟩).wellFormed = false := by decide
theorem test_wellFormed_class : (Instr.tableWriteClass 0x41 0 [0]).wellFormed = false := by decide

/-! ### Payloads and frames written out (chapter 12) -/

theorem test_decode_status : decodeReply .b true 0x21 [1, 0, 2, 1] = .status .b true .closed .ok .out .off := by decide
theorem test_decode_key_cancel : decodeReply .a true 0x22 [2] = .keyCancel .a true ∧
    decodeReply .a true 0x22 [2, 0] = .malformedReply .a true 0x22 [2, 0] := by decide
theorem test_decode_card_removal : decodeReply .a true 0x25 [0] = .cardRemoval .a true := by decide
theorem test_decode_printRdy_range :
    decodeReply .a true 0x28 [8] = .printRdy .a true 8 ∧ decodeReply .a true 0x28 [9] = .malformedReply .a true 0x28 [9] := by decide
theorem test_decode_payReport :
    decodeReply .a true 0x27 [1, 2, 3, 4, 5, 250] = .payReport .a true #v[1, 2, 3, 4, 5, 250] := by decide
theorem test_decode_length : decodeReply .a true 0x21 [1, 0, 2] = .malformedReply .a true 0x21 [1, 0, 2] := by decide
theorem test_decode_clock_set : decodeRequest 0x41 [24, 3, 4, 7, 40, 0] = .clockSet ⟨24, 3, 4, 7, 40, 0⟩ := by decide
theorem test_decode_bank_switch : decodeRequest 0x44 [0x42, 24, 3, 9, 3, 0] = .bankSwitch 0x42 ⟨24, 3, 9, 3, 0⟩ := by decide
theorem test_decode_auth_answer : decodeRequest 0x4C [2, 0x01, 0x2C, 1, 0] = .authAnswer 2 300 1 0 := by decide
theorem test_decode_events_clear : decodeRequest 0x4E [0, 0x80, 0x48, 0] = .eventsClear 0x804800 := by decide
theorem test_decode_float_set : decodeRequest 0x52 [0, 0x27, 0x10] = .floatSet 10000 := by decide
theorem test_decode_journal_pop : decodeRequest 0x4A [] = .journalPop ∧ decodeRequest 0x4A [0] = .badKind 0x4A [0] := by decide
theorem test_receive_abandons_length :
    receive .hunting [.char 0xA5 true true, .char 0 true true, .char 0x20 true true, .char 0 true true, .char 241 true true] =
      some (.abandoned .length) := by decide +kernel
theorem test_receive_abandons_gap :
    receive .hunting [.char 0xA5 true true, .char 0 true true, .idle] = some (.abandoned .gap) := by decide +kernel

/-! ### Worked examples -/

/-- Section 2.3, Worked classification. -/
theorem test_normalise_worked :
    (normalise 612 ⟨100, 1⟩, normalise 431 ⟨80, 2⟩, normalise 287 ⟨40, 0⟩) = (64, 87, 15) := by decide
theorem test_classify_worked : classify coinTable 64 87 15 = .candidate 4 50 := by decide +kernel
/-- R23: below the offset the value is 0, and at the top it is 255. -/
theorem test_normalise_edges : normalise 99 ⟨100, 1⟩ = 0 ∧ normalise 1023 ⟨0, 3⟩ = 255 := by decide

/-- Section 6.1, Worked change computations, rows 1, 2 and 5. -/
theorem test_change_retry :
    makeChange 60 [⟨0, 3, 50⟩, ⟨1, 5, 20⟩] = { list := [⟨1, 3, 20⟩], paid := 60, shortfall := 0, makeable := true } := by decide
theorem test_change_short :
    makeChange 30 [⟨0, 2, 50⟩, ⟨1, 1, 20⟩] = { list := [⟨1, 1, 20⟩], paid := 20, shortfall := 10, makeable := false } := by decide
theorem test_change_two_retries :
    makeChange 230 [⟨0, 1, 200⟩, ⟨1, 1, 50⟩, ⟨2, 4, 20⟩] =
      { list := [⟨0, 1, 200⟩, ⟨2, 1, 20⟩], paid := 220, shortfall := 10, makeable := false } := by decide

/-- Sections 4.4 and 5.13: banded fare, discount, rounding of the worked prices. -/
theorem test_price_chain :
    bandedFare 835 1150 = 960 ∧ netFare 960 35 = 624 ∧ roundDue 1872 5 9999 = 1870 ∧ roundDue 624 5 9999 = 625 ∧
      bandMinute 462 180 = 282 := by decide
/-- Section 4.4, Worked top-ups. -/
theorem test_topup_prices :
    topupPrice selling 2000 4210 = .price (pricedTopup 2000) ∧ topupPrice selling 2300 4210 = .price (pricedTopup 2300) ∧
      topupPrice selling 1250 4210 = .refused .amountInvalid ∧ topupPrice selling 6000 4210 = .price (pricedTopup 6000) ∧
      topupPrice selling 2000 13800 = .refused .overBalance ∧ topupPrice selling 400 0 = .refused .amountInvalid := by decide +kernel

/-- Section 10.5: service days, and the minute of event 3. -/
theorem test_service_days :
    serviceDay ⟨2024, 3, 9, 2, 58, 30⟩ 180 = 8833 ∧ serviceDay ⟨2024, 3, 9, 3, 0, 0⟩ 180 = 8834 ∧
      serviceDay ⟨2024, 3, 11, 10, 0, 0⟩ 600 = 8836 ∧ serviceDay ⟨2000, 1, 1, 0, 0, 0⟩ 180 = 0 ∧
      dateOfDay 8833 = (2024, 3, 8) ∧ bandMinute 151 180 = 1411 := by decide +kernel
theorem test_first_clock_set :
    let t := after (.clockSet ⟨24, 3, 4, 7, 40, 0⟩) State.reset
    t.clock.heldDay = 8829 ∧ t.clock.state = .valid ∧ (t.depot.events[EventKind.dayRolled.no]).on = false := by decide +kernel
theorem test_clock_second_leap :
    (after .clockSecond { selling with clock := ⟨⟨2024, 2, 28, 23, 59, 59⟩, .valid, 8824⟩ }).clock.dateTime =
      ⟨2024, 2, 29, 0, 0, 0⟩ := by decide +kernel

/-- R173: a boundary and a T passed within a restart are acted on at its end, and one second earlier neither is; the record
of the session it strands carries the old day. -/
def beforeBoundary : State :=
  { polled 3 (fun c => { (inState .paying c) with sess := { (inState .paying c).sess with credit := 50, fixed := some (priced 100) } }) with
    clock := ⟨⟨2024, 3, 5, 2, 59, 58⟩, .valid, 8829⟩,
    tariff := { selling.tariff with switch := some ⟨.b, ⟨2024, 3, 5, 3, 0, 0⟩⟩ },
    depot := { selling.depot with restartOwed := true } }
theorem test_pin_restart_passes_boundary :
    let t := after (.resetPin ⟨5, 2⟩) beforeBoundary
    t.clock = ⟨⟨2024, 3, 5, 3, 0, 0⟩, .valid, 8830⟩ ∧ t.tariff.switch = none ∧ t.tariff.bankB.state = .active ∧
      (t.depot.events[EventKind.dayRolled.no]).on = true ∧ (t.depot.events[EventKind.bankSwitched.no]).on = true ∧
      t.journal.records.map (fun r => (r.serviceDay, r.closeTime.second)) = [(8829, 58)] := by decide +kernel
theorem test_command_restart_short_of_boundary :
    let t := after (.commandRestart ⟨5, 1⟩) beforeBoundary
    t.clock = ⟨⟨2024, 3, 5, 2, 59, 59⟩, .valid, 8829⟩ ∧ t.tariff = beforeBoundary.tariff ∧
      (t.depot.events[EventKind.dayRolled.no]).on = false ∧ t.depot.station = 5 := by decide +kernel

/-- Section 1.3, Worked schedule, round 3 to round 4: the rotation wraps past an UNUSED and a PRESENT kiosk. -/
theorem test_rotation_wraps :
    let s := { selling with loopB := { selling.loopB with rotation := 14 } }
    let t := ((s.updLink 8 (fun l => { l with state := .present })).updLink 9 (fun l => { l with state := .absent })).updLink 12
      (fun l => { l with state := .absent })
    nextAbsent .b t = some 9 := by decide +kernel

/-- Section 2.6: the first coin of the worked sequence is accepted on its due, at the edge credit + value = due. -/
theorem test_coin_accepted_at_due :
    let s := polled 3 (fun c => calibrated (paying 1870 1820 c))
    let t := after (.coin .a true 612 431 287) { s with coins := coinTable }
    (t.coin 3).flight.map (fun f => (f.coinType, f.credit, f.route, f.reason)) = some (some 4, some 50, .escrow, .none) := by
  decide +kernel
theorem test_stray_landing_counts :
    ((after (.landed .a true .cashbox) (polled 3 (inState .idle))).cash 3).cashboxCount = 1 := by decide +kernel
theorem test_receipt_key : ((after (.keyReceiptYes .a true) (polled 3 (paying 100 0))).sess 3).receiptWanted = true := by decide +kernel
theorem test_cancel_selecting :
    ((after (.keyCancel .a true) (polled 3 (inState .selecting))).disp 3).message = .cancelled := by decide +kernel
theorem test_serial_wraps :
    let t := after (.keySelect .a true (.zones 3)) (polled 3 (fun c => { c with sess := { c.sess with serial := 65535 } }))
    (t.sess 3).serial = 0 ∧ (t.sess 3).state = .selecting ∧ (t.sess 3).selection.zones = 3 := by decide +kernel
theorem test_fill_at_capacity :
    let f := fun c : KioskCtx => { c with cash := { c.cash with tubes := c.cash.tubes.set 0 { tubeAt 4 3 with state := .suspect } } }
    let t := after (.fill .a true #v[250, 9, 0, 0, 0, 0]) (polled 3 f)
    ((t.cash 3).tubes[(0 : TubeNo)]).count = 100 ∧ ((t.cash 3).tubes[(0 : TubeNo)]).state = .payable ∧
      ((t.cash 3).tubes[(1 : TubeNo)]).count = 0 := by decide +kernel
theorem test_third_miss_is_absence :
    let t := after (.missBadCheck .a) (polled 3 (fun c => { c with link := { c.link with missCount := 2 } }))
    (t.link 3).state = .absent ∧ (t.depot.events[EventKind.kioskAbsent.no]).kiosks = [3] := by decide +kernel
theorem test_stop_list_orders :
    (after (.stoplistAdd 40) { selling with cards := { selling.cards with stopList := [7, 90] } }).cards.stopList = [7, 40, 90] ∧
      statusByte (after (.stoplistAdd 90) { selling with cards := { selling.cards with stopList := [7, 90] } }) = some 11 := by
  decide +kernel
theorem test_active_bank_refused : statusByte (after (.tableWriteClass 0x41 0 [0, 0, 0, 0]) selling) = some 7 := by decide +kernel
theorem test_journal_empty : statusByte (after .journalPop selling) = some 13 := by decide +kernel
theorem test_float_edges :
    statusByte (after (.floatSet 500000) selling) = some 0 ∧ statusByte (after (.floatSet 500001) selling) = some 3 := by decide +kernel
theorem test_mode_set_clock_unset : statusByte (after .modeSetSelling State.reset) = some 19 := by decide +kernel
theorem test_kiosk_read_length : (after (.kioskRead 3) selling).depot.reply.map (·.length) = some (6 + (kioskData 3 selling).length + 2) := by
  decide +kernel
theorem test_bad_kind : statusByte (after (.badKind 0x7F []) selling) = some 1 ∧
    statusByte (after (.badKind 0x4A [0]) selling) = some 2 := by decide +kernel
theorem test_hold_frame_restores :
    (after .depotFrameNoReply { selling with depot := { selling.depot with link := .hold .r57600 } }).depot.link = .online .r57600 := by
  decide +kernel
theorem test_bad_frame_changes_no_link :
    (after .depotBadFrame { selling with depot := { selling.depot with link := .search .r19200 } }).depot.link = .search .r19200 := by
  decide +kernel
theorem test_idle_step : step State.reset = .next State.reset := rfl
theorem test_step_takes_front :
    step { State.reset with pending := [.eventsMask 2, .statusRead] } =
      .next (after (.eventsMask 2) { State.reset with pending := [.statusRead] }) ∧
    (after (.eventsMask 2) { State.reset with pending := [.statusRead] }).pending = [.statusRead] := ⟨rfl, by decide +kernel⟩

/-! ### Witnesses of the statements' hypotheses -/

theorem witness_hears : State.reset.hears ∧ selling.hears := by unfold State.hears; decide +kernel
theorem witness_polls : (polled 0 id).polls .a 0 ∧ (polled 15 id).polls .b 15 := by unfold State.polls; decide +kernel

theorem witness_RequestsRoundTrip :
    (Instr.floatSet 0xFFFFFF).canonical = true ∧ encodeRequest (.floatSet 0xFFFFFF) = some (0x52, [0xFF, 0xFF, 0xFF]) ∧
      (Instr.tableWriteFare 0x42 15 (List.replicate 8 0xFFFF)).canonical = true ∧
      (encodeRequest (.tableWriteFare 0x42 15 (List.replicate 8 0xFFFF))).isSome = true := by decide +kernel
theorem witness_RepliesRoundTrip :
    (Instr.coin .b true 1023 0 512).canonical = true ∧ (Instr.coin .b true 1023 0 512).replyLine = some (.b, true) ∧
      encodeReply (.coin .b true 1023 0 512) = some (0x23, [0x03, 0xFF, 0, 0, 0x02, 0]) := by decide +kernel
theorem witness_FramesReceivedAsSent :
    (⟨0x83, 0x20, 1, bytes 240 0xFF⟩ : Frame).payload.length ≤ 240 ∧ (1 : Byte) ≠ 0 := by decide +kernel
theorem witness_RestartsAndTheirRequest :
    ({ selling with depot := { selling.depot with restartOwed := true } } : State).depot.restartOwed = true ∧
      (encodeRequest (.floatSet 0)).isSome = true ∧ selling.tariff.switch = none ∧ State.reset.clock.state = .invalid ∧
      beforeBoundary.clock.state = .valid ∧
      beforeBoundary.clock.heldDay < (after (.resetPin ⟨5, 2⟩) beforeBoundary).clock.heldDay ∧
      beforeBoundary.tariff.switch = some ⟨.b, ⟨2024, 3, 5, 3, 0, 0⟩⟩ ∧
      (⟨2024, 3, 5, 3, 0, 0⟩ : DateTime).minutes ≤ (after (.resetPin ⟨5, 2⟩) beforeBoundary).clock.dateTime.minutes ∧
      ¬ (⟨2024, 3, 5, 3, 0, 0⟩ : DateTime).minutes ≤ (after (.commandRestart ⟨5, 1⟩) beforeBoundary).clock.dateTime.minutes := by
  decide +kernel

/-- Below the limit, with a PRESENT kiosk at miss count 0 and 1, and with an ABSENT one; at the limit. -/
theorem witness_MissesLeadToAbsence :
    (Instr.frameAbandoned .a .parity).missLine = some .a ∧
      ((polled 3 id).loop .a).exchange = some { kiosk := 3, poll := .poll, rate := .r38400, frame := [] } ∧
      ((polled 3 id).link 3).state = .present ∧ ((polled 3 id).link 3).missCount < 2 ∧
      ((polled 3 (fun c => { c with link := { c.link with missCount := 1 } })).link 3).missCount < 2 ∧
      (((polled 3 id).updLink 3 (fun l => { l with state := .absent })).link 3).state ≠ .present ∧
      2 ≤ ((polled 3 (fun c => { c with link := { c.link with missCount := 2 } })).link 3).missCount := by decide +kernel
theorem witness_GoodReplyMakesPresent :
    let s := (polled 3 id).updLink 3 (fun l => { l with state := .absent })
    (Instr.nil .a false).replyLine = some (.a, false) ∧ (s.loop .a).exchange.isSome = true ∧ (s.link 3).state = .absent := by
  decide +kernel

/-- Kiosk 3 polled with a sent SHOW at its head, and polled with RESYNC. -/
def showSent : State :=
  let s := polled 3 (fun c => { c with link := { c.link with queue := [{ cmd := .show (Display.idle .ready), sent := some true }] } })
  s.setLoop .a { s.loop .a with exchange := some { kiosk := 3, poll := .command, rate := .r38400, frame := [] } }
theorem witness_ToggleDecidesTakeAndResync :
    (showSent.loop .a).exchange = some { kiosk := 3, poll := .command, rate := .r38400, frame := [] } ∧
      (showSent.link 3).state = .present ∧
      (showSent.link 3).queue = { cmd := .show (Display.idle .ready), sent := some true } :: [] ∧
      parseReply .a false 0x21 [9, 9, 9, 9] = none ∧
      ((showSent.setLoop .a { showSent.loop .a with exchange := some { kiosk := 3, poll := .resync, rate := .r38400, frame := [] } }).loop .a).exchange =
        some { kiosk := 3, poll := .resync, rate := .r38400, frame := [] } := by decide +kernel

/-- A resync poll of kiosk 3 with a SHOW waiting, answered by its first STATUS, which changes nothing. -/
theorem witness_ToggleDecidesTakeAndResync_status :
    let s := (showSent.setLoop .a { showSent.loop .a with exchange := some { kiosk := 3, poll := .resync, rate := .r38400, frame := [] } }).updLink 3
      (fun y => { y with resyncPending := true, firstStatusPending := true, missCount := 1, lastToggle := false })
    let status := fun a => ((after (.status .a a .closed .ok .ok .off) s).link 3)
    (s.link 3).firstStatusPending = true ∧ (s.link 3).door.value = .closed ∧ (s.link 3).cashbox.value = .ok ∧
      (s.link 3).paper.value = .ok ∧ (s.link 3).service.value = .off ∧
      (status true).lastToggle = true ∧ (status false).resyncPending = true ∧ (status false).missCount = 0 ∧
      (status false).queue = [{ cmd := .show (Display.idle .ready), sent := some true }] := by decide +kernel
/-- Kiosk 3 polled with a command sent under toggle 1 at its head. -/
def headed (c : Cmd) (f : KioskCtx → KioskCtx) : State :=
  let s := polled 3 (fun x => f { x with link := { x.link with queue := [{ cmd := c, sent := some true }] } })
  s.setLoop .a { s.loop .a with exchange := some { kiosk := 3, poll := .command, rate := .r38400, frame := [] } }
/-- Two carried entries of a DROP: one for tube 1, which holds its type, and one for the cashbox. -/
def carriedDrop : EscrowCmd :=
  { action := .drop, entries := [⟨some 2, 20⟩, ⟨some 4, 50⟩], dests := [.tube 1, .cashbox], origin := .session }
/-- Heads GATE with no return owed and with one, PAY outstanding and not, and ESCROW RETURN beside an outstanding payout. -/
theorem witness_ToggleDecidesTakeAndResync_money :
    let gate := fun n => headed (.gate .escrow .none) (fun c =>
      { c with coin := { c.coin with flight := some { accepted50 with gateTaken := false }, returnsOwed := n } })
    let pay := fun out => headed (.pay [(1, 2)]) (fun c => { c with sess := { c.sess with payoutOut := out } })
    let back := headed (.escrow .ret 1 []) (fun c =>
      { c with cash := { c.cash with escrowCmd := some { action := .ret, entries := [⟨some 4, 50⟩], dests := [], origin := .session } },
               sess := { c.sess with payoutOut := true } })
    (((gate 0).coin 3).flight = some { accepted50 with gateTaken := false } ∧ accepted50.route = .escrow ∧
      accepted50.reason = .none ∧ ((gate 0).coin 3).returnsOwed = 0 ∧ 0 < ((gate 1).coin 3).returnsOwed ∧ countKind [] .gate = 0) ∧
    (((pay true).sess 3).payoutOut = true ∧ ((pay true).sess 3).payTaken = false ∧ ((pay false).sess 3).payoutOut = false) ∧
    ((back.cash 3).held = [] ∧ (back.sess 3).payoutOut = true ∧
      ((after (.nil .a true) back).sess 3).paidBack = 50) ∧
    (((after (.nil .a true) (gate 1)).link 3).queue.map (·.cmd)) = [.gate .ret .secondCoin] := by decide +kernel
/-- A DROP with no held request and with one; an INLET; a CARDWRITE; a PRINT with CUT and without. -/
theorem witness_ToggleDecidesTakeAndResync_others :
    let drop := fun held => headed (.escrow .drop 2 [.tube 1, .cashbox]) (fun c =>
      { c with cash := { c.cash with escrowCmd := some carriedDrop, held := held, tubes := c.cash.tubes.set 1 (tubeAt 2 99) } })
    let job : Job := ⟨7, [[], []], 0, 2, false, false, false, .streaming⟩
    let print := fun cut => headed (.print [[], []] cut) (fun c => { c with jobs := [job, job] })
    let request : EscrowReq := { action := .drop, entries := [⟨some 4, 50⟩] }
    (((drop []).cash 3).escrowCmd = some carriedDrop ∧ carriedDrop.action = .drop ∧ ((drop []).cash 3).held = [] ∧
      ((drop [request]).cash 3).held = request :: [] ∧ countKind [] .escrow = 0 ∧
      ∀ n : TubeNo, (((drop []).cash 3).tubes[n]).count ≤ (((drop []).cash 3).tubes[n]).capacity) ∧
    (let t := after (.nil .a true) (drop [request])
     (t.cash 3).cashboxCount = 1 ∧ ((t.cash 3).tubes[(1 : TubeNo)]).count = 100 ∧ (t.cash 3).held = [] ∧
       (t.cash 3).escrowCmd.map (·.entries) = some [⟨some 4, 50⟩]) ∧
    (print true).jobs 3 = job :: [job] ∧ (after (.nil .a true) (print true)).jobs 3 = [job] ∧
    (after (.nil .a true) (print false)).jobs 3 = [{ job with taken := 2, inFlight := 0 }, job] ∧
    ((headed (.inlet .opened) id).link 3).queue = { cmd := .inlet .opened, sent := some true } :: [] ∧
    ((headed (.cardWrite write5001) id).link 3).queue = { cmd := .cardWrite write5001, sent := some true } :: [] := by decide +kernel
theorem witness_PollCarriesHead :
    (showSent.link 3).resyncPending = false ∧
      (showSent.link 3).queue = { cmd := .show (Display.idle .ready), sent := some true } :: [] ∧
      ((polled 3 id).link 3).queue = [] ∧
      ((polled 3 (fun c => { c with link := { c.link with resyncPending := true } })).link 3).resyncPending = true := by decide +kernel
/-- Loop A with kiosk 3 PRESENT, kiosks 1 and 6 ABSENT and the rotation at 1: a kiosk left in the round, a round that is
over before its rediscovery poll and after it, with kiosk 6 joining and not, no PRESENT kiosk, and none configured. -/
theorem witness_PollCarriesHead_schedule :
    let s := ((polled 3 id).updLink 1 (fun l => { l with state := .absent })).updLink 6 (fun l => { l with state := .absent })
    let loop := fun (round joining : List Kiosk) (done : Bool) =>
      s.setLoop .a { s.loop .a with rotation := 1, round := round, joining := joining, rediscovered := done }
    let polledBy := fun (t : State) => (((nextPoll .a t).loop .a).exchange).map (fun x => (x.kiosk, x.poll))
    let gone := (loop [] [] true).updLink 3 (fun l => { l with state := .absent })
    loopOf ((loop [] [] false).loop .a).rotation = .a ∧
      ((loop [1, 3] [] false).loop .a).round = [1] ++ 3 :: [] ∧ (s.link 1).state ≠ .present ∧ (s.link 3).state = .present ∧
      (∀ k : Kiosk, loopOf k = .a → (s.link k).state = .absent → k = 1 ∨ k = 6) ∧
      polledBy (loop [1, 3] [] false) = some (3, .poll) ∧ polledBy (loop [] [] false) = some (6, .rediscovery) ∧
      polledBy (loop [] [6] false) = some (1, .rediscovery) ∧ polledBy (loop [] [1, 6] false) = some (3, .poll) ∧
      polledBy (loop [] [] true) = some (3, .poll) ∧
      (loopKiosks .a).filter (fun k => decide ((gone.link k).state = .present)) = [] ∧
      polledBy gone = some (3, .rediscovery) ∧
      (∀ k : Kiosk, loopOf k = .b → (s.link k).state = .unused) ∧ loopOf (s.loop .b).rotation = .b ∧ (s.loop .b).round = [] := by
  decide +kernel
theorem witness_LoopsAreIndependent :
    (Instr.missNoReply .b).missLine = some .b ∧ (Instr.nil .b true).replyLine = some (.b, true) ∧ LoopId.a ≠ LoopId.b ∧
      exec (.nil .b true) showSent = .next (after (.nil .b true) showSent) := ⟨rfl, rfl, by decide, rfl⟩
theorem witness_LoopsAreIndependent_pollsOwn : showSent.pollsOwn ∧ loopOf 3 = .a ∧ step showSent = .next showSent := by
  refine ⟨?_, rfl, rfl⟩
  intro l
  cases l
  · exact ⟨fun x h => by obtain rfl := Option.some.inj h; rfl, fun k h => absurd h (List.not_mem_nil)⟩
  · exact ⟨fun x h => (by cases h), fun k h => absurd h (List.not_mem_nil)⟩
theorem witness_QueueBoundsKeptByEveryStep :
    State.reset.queuesWf ∧ step State.reset = .next State.reset :=
  ⟨fun k kd => by revert k; cases kd <;> decide +kernel, rfl⟩
theorem witness_StatusInputsAreFiltered :
    ((polled 3 id).link 3).firstStatusPending = false ∧
      ((polled 3 (fun c => { c with link := { c.link with firstStatusPending := true } })).link 3).firstStatusPending = true ∧
      ((polled 3 id).link 3).door.value = .closed ∧ ((polled 3 id).loop (loopOf 3)).edge ≠ .closing := by decide +kernel
/-- The third report in a row of a closed door with edge CLOSING, of FULL, of OK in FOLLOWING mode, of OUT with a
STREAMING head, of OK with a SUSPENDED one, and of SERVICE. -/
theorem witness_StatusInputsAreFiltered_changes :
    let job : Job := ⟨7, [[1], [2], [3]], 1, 0, false, false, false, .streaming⟩
    let shut := (polled 3 (fun c => { c with link := { c.link with door := ⟨.opened, some .closed, 2⟩,
                                                                     cashbox := ⟨.ok, some .full, 2⟩,
                                                                     paper := ⟨.ok, some .out, 2⟩,
                                                                     service := ⟨.off, some .on, 2⟩ }, jobs := [job] }))
    let closing := shut.setLoop .a { shut.loop .a with edge := .closing }
    let t := after (.status .a true .closed .full .out .on) closing
    let cleared := polled 3 (fun c => { c with link := { c.link with cashbox := ⟨.full, some .ok, 2⟩, paper := ⟨.out, some .ok, 2⟩ },
                                               cash := { c.cash with inlet := { c.cash.inlet with state := .blocked, cashboxFull := true, mode := .following } },
                                               jobs := [{ job with state := .suspended }] })
    let w := after (.status .a true .closed .ok .ok .off) cleared
    ((t.link 3).doorReport = true ∧ (t.depot.events[EventKind.doorOpenA.no]).on = true ∧ (t.cash 3).inlet.state = .blocked ∧
      (t.depot.events[EventKind.cashboxFull.no]).on = true ∧ (t.jobs 3).map (·.state) = [.suspended] ∧
      (t.svc 3).service = true ∧ (t.disp 3).message = .outOfService) ∧
    (w.cash 3).inlet.state = .opened ∧ (w.cash 3).inlet.cashboxFull = false ∧
      (w.jobs 3).map (fun j => (j.state, j.lines.length, j.resumed)) = [(.streaming, 4, true)] := by decide +kernel

/-- No entry, entry 4 alone with use ACCEPT or REFUSE, and two entries hold (64, 87, 15). -/
theorem witness_ClassificationByMatchingEntries :
    (∀ i : CoinType, ((Vector.replicate 16 none : Vector (Option CoinEntry) 16))[i] = none) ∧ coinTable[(4 : CoinType)] = some fifty ∧
      fifty.fits 64 87 15 = true ∧ fifty.fits 60 84 12 = true ∧ fifty.fits 70 92 18 = true ∧ twenty.fits 64 87 15 = false ∧
      (∀ i : CoinType, i ≠ 4 → i ≠ 2 → coinTable[i] = none) ∧
      (coinTable.set 5 (some fifty))[(5 : CoinType)] = some fifty ∧
      (coinTable.set 4 (some { fifty with use := .refuse }))[(4 : CoinType)] = some { fifty with use := .refuse } := by decide +kernel
/-- A 50 in PAYING with credit + 50 = due. -/
theorem witness_CoinWithinDueAcceptedAndRouted :
    let s := { polled 3 (fun c => calibrated (paying 1870 1820 c)) with coins := coinTable }
    let u := s.acked .a true
    (612 ≤ 1023 ∧ 431 ≤ 1023 ∧ 287 ≤ 1023) ∧ (u.coin 3).flight = none ∧ (u.coin 3).returnsOwed = 0 ∧ u.gateBusy 3 = false ∧
      classify u.coins (normalise 612 (u.coin 3).calib1) (normalise 431 (u.coin 3).calib2) (normalise 287 (u.coin 3).calib3) =
        .candidate 4 50 ∧
      (u.cash 3).inlet.state = .opened ∧ (u.sess 3).state = .paying ∧ (u.sess 3).fixed = some (priced 1870) ∧
      (u.sess 3).credit + 50 ≤ (priced 1870).due := by decide +kernel
/-- Three coins and four, with the type's tube one below its capacity and at it, and with no tube for the type. -/
theorem witness_CoinWithinDueAcceptedAndRouted_routes :
    let e : EscrowEntry := { coinType := some 4, value := 50 }
    let c := fun (n : Nat) => ({ KCash.cold with escrow := [e, e], held := [{ action := .drop, entries := [e, e] }],
                                                 tubes := KCash.cold.tubes.set 1 (tubeAt 4 n) } : KCash)
    (({ KCash.cold with escrow := [e, e, e] } : KCash).escrow.length + (({ KCash.cold with escrow := [e, e, e] } : KCash).held.map (fun r => r.entries.length)).sum < 4) ∧
      4 ≤ (c 99).escrow.length + ((c 99).held.map (fun r => r.entries.length)).sum ∧
      ((c 99).tubes[(1 : TubeNo)]).coinType = some 4 ∧ (∀ m : TubeNo, ((c 99).tubes[m]).coinType = some 4 → m = 1) ∧
      ((c 99).tubes[(1 : TubeNo)]).count < ((c 99).tubes[(1 : TubeNo)]).capacity ∧
      ((c 100).tubes[(1 : TubeNo)]).capacity ≤ ((c 100).tubes[(1 : TubeNo)]).count ∧
      ∀ n : TubeNo, ((c 99).tubes[n]).coinType ≠ some 7 := by decide +kernel

/-- A 50 that overpays 30 by 20: rejected NO_CHANGE with no 20 to give back and accepted with one; outside PAYING, and at a
BLOCKED inlet with the reject run at 7. -/
theorem witness_CoinWithinDueAcceptedAndRouted_rejects :
    let at_ := fun (f : KioskCtx → KioskCtx) => ({ polled 3 (fun c => f (calibrated (paying 30 0 c))) with coins := coinTable } : State)
    let flightOf := fun (s : State) => ((after (.coin .a true 612 431 287) s).coin 3).flight.map (fun f => (f.credit, f.route, f.reason))
    let short := at_ id
    let able := at_ (fun c => { c with cash := { c.cash with tubes := c.cash.tubes.set 0 (tubeAt 2 1) } })
    let idle := at_ (fun c => { c with sess := { c.sess with state := .idle } })
    let shut := at_ (fun c => { c with cash := { c.cash with inlet := { c.cash.inlet with state := .blocked } },
                                       sess := { c.sess with rejectRun := 7 } })
    ((priced 30).due < (short.sess 3).credit + 50 ∧ (short.cash 3).inlet.state = .opened ∧
      coinRoute (short.cash 3) 4 = .escrow ∧
      (makeChange 20 (participants short.coinValue (short.cash 3).tubes)).makeable = false ∧
      (makeChange 20 (participants able.coinValue (able.cash 3).tubes)).makeable = true) ∧
    flightOf short = some (none, .ret, .noChange) ∧ flightOf able = some (some 50, .escrow, .none) ∧
    flightOf idle = some (none, .ret, .notPaying) ∧ flightOf shut = some (none, .ret, .inletBlocked) ∧
    ((after (.coin .a true 612 431 287) shut).sess 3).rejectRun = 8 := by decide +kernel
/-- A coin ahead with no GATE in the queue; a GATE that waits; returns owed 8; reject run 7 in PAYING and outside it. -/
theorem witness_SecondCoinReturned :
    let flight := polled 3 (fun c => paying 100 0 { c with coin := { c.coin with flight := some accepted50 } })
    let run := polled 3 (fun c => (fun d => { d with coin := { d.coin with returnsOwed := 8 },
                                                     sess := { d.sess with rejectRun := 7 } }) (paying 100 0 c))
    let gate := polled 3 (fun c => { c with link := { c.link with queue := [{ cmd := .gate .ret .unknown, sent := none }] } })
    ((flight.acked .a true).coin 3).flight.isSome = true ∧ (flight.acked .a true).gateBusy 3 = false ∧
      ((flight.acked .a true).coin 3).returnsOwed = 0 ∧ (gate.acked .a true).gateBusy 3 = true ∧
      ((gate.acked .a true).sess 3).state ≠ .paying ∧
      0 < ((run.acked .a true).coin 3).returnsOwed ∧ ((run.acked .a true).sess 3).state = .paying ∧
      ((run.acked .a true).sess 3).rejectRun = 7 := by decide +kernel
/-- The unit of the worked sequence of section 2.6, the least and greatest value, a removal, and a coin at the gate. -/
theorem witness_CoinWriteReturnsCoinsInFlight :
    let u : CoinUnit := ⟨1, 500, 200, 210, 200, 200, 0, 255, 0⟩
    let f : Flight := { accepted50 with gateTaken := false }
    (9 : Byte).toNat = (9 : CoinType).val ∧ u.valid = 1 ∧ u.use.toNat ≤ 1 ∧ 1 ≤ u.value.toNat ∧ u.value.toNat ≤ 500 ∧
      u.low1.toNat ≤ u.high1.toNat ∧ u.low2.toNat ≤ u.high2.toNat ∧ u.low3.toNat ≤ u.high3.toNat ∧
      ({ u with valid := 0, use := 9 } : CoinUnit).valid = 0 ∧ f.reason = .none ∧ f.gateTaken = false := by decide +kernel
/-- A 50 short of the due by 10 after it lands, the escrow holding three; a stray landing; a RETURN. -/
theorem witness_LandingCreditsAcceptedCoin :
    let e : EscrowEntry := { coinType := some 4, value := 50 }
    let s := polled 3 (fun c => paying 210 150 { c with coin := { c.coin with flight := some accepted50 },
                                                        cash := { c.cash with escrow := [e, e, e] } })
    let u := s.acked .a true
    (u.coin 3).flight = some accepted50 ∧ accepted50.coinType = some 4 ∧ accepted50.credit = some 50 ∧
      accepted50.released = false ∧ (u.cash 3).escrow.length + (u.cash 3).heldCount < 4 ∧ (u.sess 3).state = .paying ∧
      (u.sess 3).fixed = some (priced 210) ∧ (u.sess 3).credit + 50 < (priced 210).due ∧ (u.sess 3).state ≠ .cancelling ∧
      (((polled 3 id).acked .a true).coin 3).flight = none := by decide +kernel

/-- The coin that reaches the due of a paper sale and of a top-up whose card is and is not on the stop-list; one landing in
CANCELLING; landings in a tube of its type, of another and of none, and in a full escrow. -/
theorem witness_LandingCreditsAcceptedCoin_due :
    let flown := fun (x : KioskCtx → KioskCtx) => polled 3 (fun c => x { c with coin := { c.coin with flight := some accepted50 } })
    let sale := flown (paying 100 50)
    let topup := flown (fun c => { c with sess := { c.sess with
      state := .paying, kind := .topup, serial := 7, fixed := some (pricedTopup 2000), credit := 1970, card := some card5001 } })
    let listed := { topup with cards := { topup.cards with stopList := [5001] } }
    let cancelling := flown (fun c => { c with sess := { c.sess with state := .cancelling, serial := 7, cancelCause := some .cardBlocked, credit := 20 } })
    let landed := fun (s : State) (d : Dest) => after (.landed .a true d) s
    ((priced 100).due ≤ (sale.sess 3).credit + 50 ∧ (sale.sess 3).kind = .paperSale ∧
      ((landed sale .cashbox).sess 3).state = .idle ∧ ((landed sale .cashbox).sess 3).outcome = some .completed) ∧
    ((pricedTopup 2000).due ≤ (topup.sess 3).credit + 50 ∧ (topup.sess 3).kind ≠ .paperSale ∧
      card5001.number ∉ topup.cards.stopList ∧ countKind (topup.link 3).queue .cardWrite = 0 ∧
      ((landed topup .cashbox).sess 3).state = .writing) ∧
    (card5001.number ∈ listed.cards.stopList ∧ ((landed listed .cashbox).sess 3).write = .failed) ∧
    (accepted50.released = false ∧ (cancelling.sess 3).state = .cancelling ∧ ((landed cancelling .cashbox).sess 3).credit = 70 ∧
      ((landed cancelling .ret).sess 3).credit = 20) := by decide +kernel
/-- In CANCELLING: the coin lands in the escrow beside one other, in a tube, and without credit. -/
theorem witness_LandingCreditsAcceptedCoin_cancelling :
    let e : EscrowEntry := { coinType := some 4, value := 50 }
    let cancelling := fun (f : Flight) => polled 3 (fun c => { c with
      coin := { c.coin with flight := some f },
      cash := { c.cash with escrow := [e], tubes := c.cash.tubes.set 0 (tubeAt 4 99) },
      sess := { c.sess with state := .cancelling, serial := 7, cancelCause := some .timedOut, credit := 50, escrowValue := 50 } })
    let landed := fun (f : Flight) (d : Dest) => after (.landed .a true d) (cancelling f)
    let rejected : Flight := { accepted50 with credit := none }
    ((cancelling accepted50).sess 3).state = .cancelling ∧ accepted50.credit.isSome = true ∧ accepted50.coinType.isSome = true ∧
      rejected.credit = none ∧ ((cancelling accepted50).cash 3).escrow.length + ((cancelling accepted50).cash 3).heldCount < 4 ∧
      ((cancelling accepted50).cash 3).held = [] ∧ countKind ((cancelling accepted50).link 3).queue .escrow = 0 ∧
      (((landed accepted50 .escrow).cash 3).escrowCmd.map (·.entries)) = some [e, e] ∧
      ((landed accepted50 .escrow).sess 3).changeDue = 0 ∧ ((landed accepted50 .escrow).sess 3).credit = 100 ∧
      ((landed accepted50 (.tube 0)).sess 3).changeDue = 50 ∧
      (((landed accepted50 (.tube 0)).cash 3).tubes[(0 : TubeNo)]).count = 100 ∧
      ((landed rejected .cashbox).sess 3).credit = 50 ∧ ((landed rejected .cashbox).cash 3).cashboxCount = 1 := by decide +kernel
theorem witness_LandingCreditsAcceptedCoin_places :
    let e : EscrowEntry := { coinType := some 4, value := 50 }
    let s := polled 3 (fun c => paying 500 0 { c with
      coin := { c.coin with flight := some accepted50 },
      cash := { c.cash with escrow := [e, e, e, e], tubes := (c.cash.tubes.set 0 (tubeAt 4 99)).set 1 (tubeAt 2 9) } })
    let landed := fun (d : Dest) => (after (.landed .a true d) s).cash 3
    (∀ n : TubeNo, ((s.cash 3).tubes[n]).count ≤ ((s.cash 3).tubes[n]).capacity) ∧ 4 ≤ (s.cash 3).escrow.length + (s.cash 3).heldCount ∧
      (landed .escrow).cashboxCount = 1 ∧ ((landed (.tube 0)).tubes[(0 : TubeNo)]).count = 100 ∧
      ((landed (.tube 1)).tubes[(1 : TubeNo)]).state = .suspect ∧ (landed (.tube 2)).cashboxCount = 1 := by decide +kernel
/-- Two entries of a type whose tube has room for one of them, and one of a type that no tube holds. -/
theorem witness_DropFitsTheTubes_room :
    let tubes := KCash.cold.tubes.set 1 (tubeAt 4 99)
    (tubes[(1 : TubeNo)]).coinType = some 4 ∧ (∀ m : TubeNo, (tubes[m]).coinType = some 4 → m = 1) ∧
      (∀ n : TubeNo, (tubes[n]).coinType ≠ some 7) ∧
      dropDests tubes [] [⟨some 4, 50⟩, ⟨some 4, 50⟩, ⟨some 7, 10⟩] = [.tube 1, .cashbox, .cashbox] := by decide +kernel
theorem witness_DropFitsTheTubes : ∀ n : TubeNo, ((Vector.replicate 6 (tubeAt 4 100))[n]).count ≤ ((Vector.replicate 6 (tubeAt 4 100))[n]).capacity := by
  decide +kernel
/-- A full tube of capacity 250 with its mark at the count, and the marker none. -/
theorem witness_TubeWriteReplacesRecord :
    let u : TubeUnit := ⟨15, 250, 250, 250⟩
    (15 : Byte).toNat = (15 : Kiosk).val ∧ (5 : Byte).toNat = (5 : TubeNo).val ∧ (selling.sess 15).state = .idle ∧
      u.coinType.toNat = (15 : CoinType).val ∧ 1 ≤ u.capacity.toNat ∧ u.capacity.toNat ≤ 250 ∧
      u.count.toNat ≤ u.capacity.toNat ∧ u.lowMark.toNat ≤ u.capacity.toNat ∧
      (∀ m : TubeNo, m ≠ 5 → ((selling.cash 15).tubes[m]).coinType ≠ some 15) ∧
      ((selling.cash 15).tubes[(5 : TubeNo)]).lowFlag = false ∧ (⟨0xFF, 1, 0, 0⟩ : TubeUnit).coinType = 0xFF#8 := by decide +kernel
theorem witness_FillAdoptsCounts :
    (∀ n : TubeNo, (#v[250, 0, 1, 2, 3, 250] : Vector Nat 6)[n] ≤ 250) ∧ (((polled 3 id).acked .a true).sess 3).state = .idle ∧
      (((polled 3 (paying 100 0)).acked .a true).sess 3).state ≠ .idle := by decide +kernel

/-- A session in DISPENSING whose PAY of two coins from tube 1 was taken, its payout timer running. -/
def dispensing : State :=
  polled 3 (fun c =>
    { c with sess := { c.sess with state := .dispensing, purpose := .change, payoutOut := true, payTaken := true, credit := 100,
                                   fixed := some (priced 60), payout := [⟨1, 2, 20⟩], tPayout := some 10, serial := 7 },
             cash := { c.cash with order := some { entries := [(1, 2)], taken := true }, tubes := c.cash.tubes.set 1 (tubeAt 2 9) } })
theorem witness_PayoutEndsByReportOrTimer :
    let u := dispensing.acked .a true
    (u.sess 3).state = .dispensing ∧ (u.sess 3).payoutOut = true ∧ (u.sess 3).payTaken = true ∧
      (u.cash 3).order = some { entries := [(1, 2)], taken := true } ∧ (∀ n : TubeNo, (#v[0, 1, 0, 0, 0, 250] : Vector Nat 6)[n] ≤ 250) ∧
      (#v[0, 1, 0, 0, 0, 250] : Vector Nat 6)[(1 : TubeNo)] < commanded [(1, 2)] 1 ∧
      (dispensing.sess 3).tPayout.isSome = true ∧ (dispensing.sess 3).state = .dispensing := by decide +kernel

/-- Inlets: open with no cause; BLOCKED by SERVER; by REJECT_RUN while a session runs; by CASHBOX_FULL in LATCHED mode. -/
theorem witness_InletControlledByServer :
    let open_ := polled 3 id
    let by_ := fun (f : Inlet → Inlet) => polled 3 (fun c => { c with cash := { c.cash with inlet := f c.cash.inlet } })
    let run := polled 3 (fun c => (fun d => { d with cash := { d.cash with inlet := { d.cash.inlet with state := .blocked, rejectRun := true } } }) (paying 100 0 c))
    let server := by_ (fun i => { i with state := .blocked, server := true })
    let full := by_ (fun i => { i with state := .blocked, cashboxFull := true })
    ((open_.link 3).state ≠ .unused ∧ (open_.cash 3).inlet.server = false ∧ (open_.cash 3).inlet.state = .opened ∧
      (open_.cash 3).inlet.mode = .latched ∧ (open_.cash 3).inlet.noCause = true) ∧
    ((server.cash 3).inlet.server = true ∧ (server.sess 3).state = .idle ∧ (server.link 3).cashbox.value = .ok ∧
      (server.cash 3).inlet.state = .blocked ∧ (server.cash 3).inlet.noCause = false) ∧
    ((run.sess 3).state ≠ .idle ∧ (run.cash 3).inlet.rejectRun = true) ∧
    ((full.cash 3).inlet.cashboxFull = true ∧ (full.cash 3).inlet.rejectRun = false ∧ (full.cash 3).inlet.server = false ∧
      (full.cash 3).inlet.state = .blocked ∧ (full.cash 3).inlet.mode = .latched ∧ (full.link 3).cashbox.value = .ok) ∧
    ((by_ (fun i => { i with mode := .following })).cash 3).inlet.mode = .following := by decide +kernel

/-- BLOCK of an inlet blocked already, and RELEASE with the cashbox FULL, without a cause, and with a session running. -/
theorem witness_InletControlledByServer_others :
    let by_ := fun (f : Inlet → Inlet) (g : KioskCtx → KioskCtx) =>
      polled 3 (fun c => g { c with cash := { c.cash with inlet := f c.cash.inlet } })
    let blocked := by_ (fun i => { i with state := .blocked, cashboxFull := true })
    let full := blocked fun c => { c with link := { c.link with cashbox := .start .full } }
    let running := by_ (fun i => { i with state := .blocked, server := true }) (paying 100 0)
    (((blocked id).cash 3).inlet.server = false ∧ ((blocked id).cash 3).inlet.state = .blocked) ∧
    ((full.cash 3).inlet.cashboxFull = true ∧ (full.link 3).cashbox.value = .full) ∧
    (((polled 3 id).cash 3).inlet.noCause = true) ∧
    ((running.cash 3).inlet.noCause = false ∧ (running.cash 3).inlet.state = .blocked ∧ (running.sess 3).state ≠ .idle ∧
      (running.cash 3).inlet.rejectRun = false ∧ ((after (.kioskControlRelease 3) running).cash 3).inlet.reopenWaiting = true) := by
  decide +kernel
/-- Section 6.1, Worked change computations: the greedy counts of row 1 and its retry; row 2 has no retry that succeeds. -/
theorem witness_ChangeIsExact :
    let parts : List PayEntry := [⟨0, 3, 50⟩, ⟨1, 5, 20⟩]
    worth parts [1, 0] ≠ 60 ∧ worth parts [0, 3] = 60 ∧ worth parts [0, 5] = 100 ∧
      payoutList parts [0, 3] = [⟨1, 3, 20⟩] ∧ ([1, 0] : List Nat).length = parts.length ∧ ([0, 3] : List Nat).take 0 = [1, 0].take 0 ∧
      (1 = min 3 ((60 - worth (parts.take 0) [1, 0]) / 50) ∧ 0 = min 5 ((60 - worth (parts.take 1) [1, 0]) / 20) ∧
        3 = min 5 ((60 - worth (parts.take 1) [0, 3]) / 20)) := by decide
theorem witness_ChangeIsExact_greedy : IsGreedy 60 [⟨0, 3, 50⟩, ⟨1, 5, 20⟩] [1, 0] ∧ IsRetry 60 [⟨0, 3, 50⟩, ⟨1, 5, 20⟩] [1, 0] 0 [0, 3] := by
  refine ⟨⟨rfl, ?_⟩, rfl, rfl, ⟨0, rfl, rfl⟩, ?_⟩ <;> intro i <;> rcases i with _ | _ | i <;>
    simp [fillsGreedily, worth]
theorem witness_IndicatorTestsEveryAmount :
    State.reset.activeHeader = none ∧ selling.activeHeader = some header ∧ 0 < header.step ∧
      (coinTable[(4 : CoinType)] = some fifty ∧ fifty.use = .accept ∧ acceptMax coinTable = 50) ∧ acceptMax State.reset.coins = 0 := by
  decide +kernel
/-- Step 10: remainders 4, 5 and 9, below max sale and where rounding up passes it. -/
theorem witness_DueRoundsToStep :
    (2 * (1234 % 10) < 10) ∧ (10 ≤ 2 * (1235 % 10) ∧ 1235 - 1235 % 10 + 10 ≤ 9999) ∧
      (10 ≤ 2 * (9999 % 10) ∧ 9999 < 9999 - 9999 % 10 + 10) ∧ 9999 ≤ 9999 := by decide
theorem witness_BandIsLastStartReached : ({ start := 0, cls := 0 } : Band).start = 0 ∧ 1439 < 1440 ∧ 100 ≤ 100 := by decide
/-- A denomination above the span, both ends of the span, and the card maximum met and passed by 1. -/
theorem witness_TopupPricedByHeader :
    State.reset.tariff.active = none ∧ selling.tariff.active = some .a ∧ (selling.tariff.bank .a).header = some header ∧
      (6000 ≠ 0 ∧ 6000 ∈ header.denominations) ∧ (500 % 100 = 0 ∧ header.topupMin ≤ 500 ∧ 500 ≤ header.topupMax) ∧
      (5000 % 100 = 0 ∧ 5000 ≤ header.topupMax) ∧ ¬(400 ∈ header.denominations) ∧ ¬(header.topupMin ≤ 400) ∧
      9000 + 6000 ≤ header.cardMax ∧ header.cardMax < 9001 + 6000 := by decide +kernel

/-- Units of the seven banked tables at the ends of their ranges, and a bank that can be written. -/
theorem witness_BankedWritesJudgedAndTaken :
    (bankOf 0x42 = some .b ∧ (selling.tariff.bank .b).state ≠ .active ∧ selling.tariff.switch = none ∧
      (selling.tariff.bank .a).state = .active ∧ (0x40#8 ≠ 0x41#8 ∧ 0x40#8 ≠ 0x42#8)) ∧
    (headerOf ⟨1, 50, 99999, 500, 100, 50000, 99999, 50000, [100, 50000, 0, 0, 0, 0, 0, 0]⟩).isSome = true ∧
    (let u : ProductUnit := ⟨1, 9999, bytes 20 0x41, 1, 31, 2, 15, 3, 3, 15, 15, 9⟩
     (productOf u).isSome = true ∧ u.name.length = 20 ∧ (productOf u).map (fun p => codeTaken Bank.cold 63 p.code) = some false) ∧
    ([0xFFFF, 60000, 0, 0, 0, 0, 0, 0] : List Half).all (fun c => decide (c = 0xFFFF#16 ∨ c.toNat ≤ 60000)) = true ∧
    ([500, 2000, 1000, 1000] : List Half).all (fun f => decide (500 ≤ f.toNat ∧ f.toNat ≤ 2000)) = true ∧
    (planOf ⟨2, [⟨0, 0⟩, ⟨1439, 3⟩, ⟨0, 0⟩, ⟨0, 0⟩, ⟨0, 0⟩, ⟨0, 0⟩]⟩).isSome = true ∧
    ([0, 100, 35, 0] : List Byte).all (fun p => decide (p.toNat ≤ 100)) = true ∧ ((36524 : Half).toNat ≤ 36524) := by decide +kernel
/-- Units at the ends of their ranges, and units a step beyond them. -/
theorem witness_BankedWritesJudgedAndTaken_ranges :
    let product : ProductUnit := ⟨1, 9999, bytes 20 0x41, 1, 31, 2, 15, 3, 3, 15, 15, 9⟩
    let p : Product := { code := 9999, name := bytes 20 0x41, kind := .pass, days := 31, carriers := .both, fareRow := 15,
                         bandGroup := 3, discountGroup := 3, classes := ⟨true, true, true, true⟩, template := 15, maxQuantity := 9 }
    let plan : DayplanUnit := ⟨2, [⟨0, 0⟩, ⟨1439, 3⟩, ⟨0, 0⟩, ⟨0, 0⟩, ⟨0, 0⟩, ⟨0, 0⟩]⟩
    (∃ h : Header, h.IsGivenBy ⟨1, 50, 99999, 500, 100, 50000, 99999, 50000, [100, 50000, 0, 0, 0, 0, 0, 0]⟩) ∧
    p.IsGivenBy product ∧ PlanIsGivenBy [⟨0, 0⟩, ⟨1439, 3⟩] plan ∧
    (∀ h : Header, ¬ h.IsGivenBy ⟨1, 3, 99999, 500, 100, 50000, 99999, 50000, [0, 0, 0, 0, 0, 0, 0, 0]⟩) ∧
    (∀ q : Product, ¬ q.IsGivenBy { product with maxQuantity := 10 }) ∧
    (∀ l : List Band, ¬ PlanIsGivenBy l { plan with count := 7 }) ∧
    (let b := { Bank.cold with products := Bank.cold.products.set 5 (some p) }
     (5 : Fin 64) ≠ 63 ∧ b.products[(5 : Fin 64)] = some p) ∧
    (64 ≤ (64 : Byte).toNat ∧ (64 : Byte).toNat < 128) ∧ ((0xEA61 : Half) ≠ 0xFFFF#16 ∧ 60000 < (0xEA61 : Half).toNat) ∧
    ((499 : Half).toNat < 500 ∧ 2000 < (2001 : Half).toNat) ∧ 100 < (101 : Byte).toNat ∧ 36524 < (36525 : Half).toNat := by
  refine ⟨⟨⟨50, 99999, 500, 100, 50000, 99999, 50000, [100, 50000, 0, 0, 0, 0, 0, 0]⟩, ?_⟩, ?_, ?_, fun h g => ?_, fun q g => ?_,
    fun l g => absurd g.1.2 (by decide), by decide, by decide, by decide, by decide, by decide, by decide⟩
  · unfold Header.IsGivenBy topupAmount; decide
  · unfold Product.IsGivenBy; decide
  · unfold PlanIsGivenBy; decide
  · obtain ⟨_, rfl, hs, _⟩ := g; exact absurd hs (by decide)
  · obtain ⟨_, _, _, _, _, _, _, _, _, _, _, hq, _, hm⟩ := g; rw [hq] at hm; exact absurd hm (by decide)
theorem witness_ReadsAnswerUnits :
    (15 : Byte).toNat = (15 : Kiosk).val ∧ (23 : Byte).toNat = (23 : Fin 24).val ∧ (0x41#8 = BankId.a.letter) ∧
      bankedUnit (selling.tariff.bank .a) .holiday 31 = some [0, 0, 0] := by decide +kernel

/-- A bank that passes validation: a header, four plans from minute 0, a clock at the minute and a minute before it. -/
def ready : State :=
  { selling with tariff := { selling.tariff with bankB :=
      { Bank.cold with header := some header, plans := Vector.replicate 4 (some [{ start := 0, cls := 0 }]) } } }
theorem witness_BankSwitchAndCancel :
    minuteOf ⟨24, 3, 4, 7, 40⟩ = some ⟨2024, 3, 4, 7, 40, 0⟩ ∧ minuteOf ⟨24, 3, 4, 7, 41⟩ = some ⟨2024, 3, 4, 7, 41, 0⟩ ∧
      ready.clock.state = .valid ∧ (ready.tariff.bank .b).state ≠ .active ∧ ready.tariff.switch = none ∧
      validateBank ready (ready.tariff.bank .b) = none ∧
      (⟨2024, 3, 4, 7, 40, 0⟩ : DateTime).minutes ≤ ready.clock.dateTime.minutes ∧
      ready.clock.dateTime.minutes < (⟨2024, 3, 4, 7, 41, 0⟩ : DateTime).minutes ∧
      validateBank selling (selling.tariff.bank .b) = some (7, 0) ∧
      (({ ready.tariff with switch := some { bank := .b, minute := ⟨2024, 3, 9, 3, 0, 0⟩ } } : Tariff).switch.isSome = true) ∧
      bankOf 0x43 = none ∧ minuteOf ⟨24, 2, 30, 7, 40⟩ = none ∧ State.reset.clock.state = .invalid ∧
      (selling.tariff.bank .a).state = .active ∧ selling.clock.state = .valid := by
  decide +kernel
/-- A bank that passes every check of Table 4-5, and banks that fail at a product, at a plan and at a holiday. -/
theorem witness_BankSwitchAndCancel_checks :
    let sound := ready.tariff.bank .b
    let pass : Product :=
      { code := 1, name := [0x41#8], kind := .pass, days := 1, carriers := .card, fareRow := 0, bandGroup := 0,
        discountGroup := 0, classes := ⟨true, false, false, false⟩, template := 0, maxQuantity := 2 }
    let product := { sound with products := sound.products.set 63 (some pass) }
    let plan := { sound with plans := sound.plans.set 3 (some [{ start := 1, cls := 0 }]) }
    let holiday := { sound with holidays := (sound.holidays.set 0 (some 9)).set 31 (some 9) }
    header.Sound ∧ sound.header = some header ∧ (∀ n, sound.ProductSound ready n) ∧ (∀ d, sound.PlanSound d) ∧
      (∀ n, sound.HolidaySound n) ∧ ¬ product.ProductSound ready 63 ∧ ¬ plan.PlanSound 3 ∧ ¬ holiday.HolidaySound 31 ∧
      validateBank ready product = some (8, 63) ∧ validateBank ready plan = some (11, 3) ∧
      validateBank ready holiday = some (13, 31) := by
  refine ⟨by unfold Header.Sound; decide, rfl, fun n p h => ?_, fun d => ?_, fun n day before m h => ?_, fun h => ?_, fun h => ?_,
    fun h => ?_, by decide +kernel, by decide +kernel, by decide +kernel⟩
  · have none_ : ∀ n : Fin 64, (ready.tariff.bank .b).products[n] = none := by decide +kernel
    rw [none_] at h; nomatch h
  · refine ⟨{ start := 0, cls := 0 }, [], ?_, rfl⟩; revert d; decide +kernel
  · have none_ : ∀ n : Fin 32, (ready.tariff.bank .b).holidays[n] = none := by decide +kernel
    rw [none_] at h; nomatch h
  · exact absurd ((h _ rfl rfl).1 (by decide)) (by decide)
  · obtain ⟨first, rest, he, hz⟩ := h
    have hf := (List.cons.inj (Option.some.inj he)).1
    subst hf; exact absurd hz (by decide)
  · exact absurd (h 9 9 0 rfl (by decide) rfl (by decide +kernel)) (by decide)
theorem witness_OneActiveBankKeptByEveryStep : selling.tariff.oneActive ∧ step selling = .next selling :=
  ⟨by unfold Tariff.oneActive; decide +kernel, rfl⟩

theorem witness_StartingFrameOpensSession :
    (SelectItem.product 9999).wellFormed = true ∧ card5001.wellFormed = true ∧
      (((polled 3 id).acked .a true).sess 3).state = .idle ∧ ((polled 3 id).acked .a true).depot.mode = .selling ∧
      (((polled 3 id).acked .a true).svc 3).out = false ∧
      (((polled 3 (fun c => { c with svc := { c.svc with server := true } })).acked .a true).svc 3).out = true ∧
      ({ polled 3 id with depot := { selling.depot with mode := .suspended } } : State).depot.mode ≠ .selling := by decide +kernel
theorem witness_SelectingFramesApply :
    (((polled 3 (inState .selecting)).acked .a true).sess 3).state = .selecting ∧ (SelectItem.topup 50000).wellFormed = true ∧
      card5001.wellFormed = true := by decide +kernel
theorem witness_ReceiptKeysSetReceiptWanted :
    (((polled 3 (inState .cancelling)).acked .a true).sess 3).state ≠ .idle ∧
      (((polled 3 id).acked .a true).sess 3).state = .idle ∧ (let x : Session := { Session.start 7 with kind := .cardSale }
       receiptForced x .completed = false ∧ x.receiptWanted = false ∧ ({ x with receiptWanted := true } : Session).receiptWanted = true) := by decide +kernel
/-- An unforced receipt that is wanted, with no job held, with two, and with three; a template with a line and one without. -/
theorem witness_ReceiptKeysSetReceiptWanted_close :
    let job : Job := ⟨6, [[]], 0, 0, false, false, false, .streaming⟩
    let feed : LineRecord := { condition := .always, body := .feed 1 }
    let at_ := fun (n : Nat) => polled 3 (fun c => { c with
      sess := { c.sess with state := .dispensing, purpose := .change, kind := .cardSale, serial := 7, receiptWanted := true,
                            fixed := some (priced 60) }, jobs := List.replicate n job })
    let lined := fun (n : Nat) => { at_ n with templates := (at_ n).templates.set 0 (Vector.replicate 24 (some feed)) }
    let answer := fun (s : State) => (requestReceipt 3 .completed s).2
    receiptForced ((at_ 0).sess 3) .completed = false ∧ ((at_ 0).sess 3).receiptWanted = true ∧
      2 ≤ ((at_ 2).jobs 3).length ∧ ((at_ 1).jobs 3).length < 2 ∧
      answer (at_ 0) = .notPrinted ∧ answer (at_ 2) = .skipped ∧ answer (at_ 3) = .skipped ∧ answer (lined 1) = .queued ∧
      answer (lined 2) = .skipped := by decide +kernel

/-- The product of the worked prices at a flat fare of 240, with a session in SELECTING that shows it. -/
def confirming : State :=
  let product : Product :=
    { code := 210, name := [0x44#8], kind := .single, days := 0, carriers := .both, fareRow := 0, bandGroup := 0,
      discountGroup := 0, classes := ⟨true, true, true, true⟩, template := 5, maxQuantity := 9 }
  let s := polled 3 (fun c =>
    { c with sess := { c.sess with state := .selecting, serial := 7, shown := some 240, tInactivity := some 45,
                                   selection := { c.sess.selection with product := some 210 } } })
  { s with tariff := { s.tariff with bankA := { s.tariff.bankA with
      products := s.tariff.bankA.products.set 0 (some product), fares := s.tariff.bankA.fares.set 0 (List.replicate 8 (some 240)),
      plans := Vector.replicate 4 (some [{ start := 0, cls := 0 }]) } } }
/-- The shown price, the message and the offered amounts of kiosk 3 after a command. -/
def shownAfter (c : Instr) (s : State) : Option Nat × Message × List Nat :=
  (((after c s).sess 3).shown, ((after c s).disp 3).message, ((after c s).disp 3).offered)
/-- The rows of R80: nothing selected, a product priced and one not offered, a top-up with a card and without. -/
theorem witness_SelectingFramesApply_rows :
    shownAfter (.keySelect .a true (.zones 3)) (polled 3 (inState .selecting)) = (none, .select, header.denominations.take 4) ∧
    shownAfter (.keySelect .a true (.product 210)) confirming = (some 240, .price, header.denominations.take 4) ∧
    shownAfter (.keySelect .a true (.carrier .card)) confirming = (some 240, .insertCard, header.denominations.take 4) ∧
    shownAfter (.keySelect .a true (.product 211)) confirming = (none, .notOffered, header.denominations.take 4) ∧
    shownAfter (.keySelect .a true (.topup 1000)) confirming = (none, .insertCard, header.denominations.take 4) ∧
    shownAfter (.keySelect .a true (.topup 1000)) (after (.cardImage .a true card5001) confirming) = (some 1020, .price, header.denominations.take 4) := by decide +kernel
theorem witness_ConfirmReservesAndPays :
    let u := confirming.acked .a true
    let full := { confirming with journal := { confirming.journal with reservations := 256 } }
    (u.sess 3).state = .selecting ∧ (u.sess 3).kind = .paperSale ∧ (u.sess 3).shown = some (priced 240).due ∧
      priceRequest (u.sess 3) u = some (.price (priced 240)) ∧ u.journal.occupancy < 256 ∧ 0 < (priced 240).due ∧
      (u.link 3).paper.value ≠ .out ∧ (u.jobs 3).length < 2 ∧ 256 ≤ (full.acked .a true).journal.occupancy := by decide +kernel
/-- The judgements of CONFIRM in their order: nothing shown, no card, a refusal, a changed price, no printer; and a paper
sale of due 0, which closes at once. -/
theorem witness_ConfirmReservesAndPays_refusals :
    let at_ := fun (f : KioskCtx → KioskCtx) => confirming.upd 3 f
    let after_ := fun (s : State) => after (.keyConfirm .a true) s
    let blank := at_ (fun c => { c with sess := { c.sess with shown := none } })
    let cardless := at_ (fun c => { c with sess := { c.sess with kind := .cardSale } })
    let many := at_ (fun c => { c with sess := { c.sess with selection := { c.sess.selection with quantity := 10 } } })
    let stale := at_ (fun c => { c with sess := { c.sess with shown := some 230 } })
    let paperless := at_ (fun c => { c with link := { c.link with paper := ⟨.out, none, 0⟩ } })
    let free := { at_ (fun c => { c with sess := { c.sess with shown := some 0 } }) with
      tariff := { confirming.tariff with bankA := { confirming.tariff.bankA with
        fares := confirming.tariff.bankA.fares.set 0 (List.replicate 8 (some 0)) } } }
    ((blank.sess 3).shown = none ∧ ((after_ blank).sess 3).state = .selecting) ∧
    ((cardless.sess 3).card = none ∧ ((after_ cardless).disp 3).message = .insertCard) ∧
    (priceRequest (many.sess 3) many = some (.refused .qtyLimit) ∧ ((after_ many).disp 3).message = .qtyLimit) ∧
    ((after_ stale).disp 3).message = .priceChanged ∧ ((after_ stale).sess 3).shown = some 240 ∧
    ((after_ paperless).disp 3).message = .noPrinter ∧ (after_ paperless).journal.reservations = 0 ∧
    (priceRequest (free.sess 3) free = some (.price (priced 0)) ∧ (free.sess 3).credit = 0 ∧ (free.sess 3).payoutOut = false ∧
      (free.sess 3).returnOut = false ∧ (free.cash 3).escrow = [] ∧ (free.cash 3).inlet.reopenWaiting = false ∧
      (free.cash 3).inlet.rejectRun = false ∧
      ((after_ free).sess 3).outcome = some .completed ∧ (after_ free).journal.records.length = 1) := by decide +kernel
/-- A card sale on a card that is listed and one that is not, a pass on a card with a current pass, a card sale of due 0,
and a top-up with the link ONLINE and without it, granted and denied by the offline rule. -/
theorem witness_ConfirmReservesAndPays_cards :
    let at_ := fun (f : KioskCtx → KioskCtx) => confirming.upd 3 f
    let after_ := fun (s : State) => after (.keyConfirm .a true) s
    let sale := at_ (fun c => { c with sess := { c.sess with kind := .cardSale, card := some card5001 } })
    let listed := { sale with cards := { sale.cards with stopList := [5001] } }
    let passes := { at_ (fun c => { c with sess := { c.sess with kind := .cardSale, card := some { card5001 with pass := some ⟨210, 3, 8829, 8829⟩ } } }) with
      tariff := { confirming.tariff with bankA := { confirming.tariff.bankA with
        products := Vector.map (fun (p : Option Product) => p.map (fun p => { p with kind := .pass, days := 7 })) confirming.tariff.bankA.products } } }
    let free := { sale.upd 3 (fun c => { c with sess := { c.sess with shown := some 0 } }) with
      tariff := { confirming.tariff with bankA := { confirming.tariff.bankA with
        fares := confirming.tariff.bankA.fares.set 0 (List.replicate 8 (some 0)) } } }
    let topup := at_ (fun c => { c with sess := { c.sess with kind := .topup, card := some card5001, shown := some 2020,
                                                              selection := { c.sess.selection with product := none, topup := some 2000 } } })
    let offline := { topup with depot := { topup.depot with link := .hold .r9600 }, cards := { topup.cards with floatRemaining := 2000 } }
    let poor := { offline with cards := { offline.cards with floatRemaining := 1999 } }
    ((sale.sess 3).card = some card5001 ∧ card5001.number ∉ sale.cards.stopList ∧ ((after_ sale).sess 3).state = .paying) ∧
    (card5001.number ∈ listed.cards.stopList ∧ ((after_ listed).disp 3).message = .cardBlocked) ∧
    ((after_ passes).disp 3).message = .passPresent ∧
    (countKind (free.link 3).queue .cardWrite = 0 ∧ ((after_ free).sess 3).state = .writing) ∧
    (priceRequest (topup.sess 3) topup = some (.price (pricedTopup 2000)) ∧ (pricedTopup 2000).detail = .topup 2000 20 ∧
      topup.depot.link = .online .r9600 ∧ ((after_ topup).sess 3).state = .authorising ∧
      (after_ topup).cards.authList.map (fun e => (e.kiosk, e.attempt, e.amount)) = [(3, 1, 2000)]) ∧
    (offlineDenial offline 5001 2000 = none ∧ ((after_ offline).sess 3).auth = .grantedOffline) ∧
    (offlineDenial poor 5001 2000 = some .floatExhausted ∧ ((after_ poor).sess 3).state = .selecting) := by decide +kernel
/-- The worked product at 240: priced, and each refusal of R67 in its order; factors and percents that round a half. -/
theorem witness_BandIsLastStartReached_sale :
    let price := fun (code zones : Nat) (cls : RiderClass) (q : Nat) => salePrice confirming code zones cls q .card
    let noChild := { confirming with tariff := { confirming.tariff with bankA := { confirming.tariff.bankA with
      products := Vector.map (fun (p : Option Product) => p.map (fun p => { p with classes := { p.classes with child := false } })) confirming.tariff.bankA.products } } }
    confirming.tariff.active = some .a ∧ ((confirming.tariff.bank .a).products[(0 : Fin 64)]).map (·.code) = some 210 ∧
      price 210 1 .adult 1 = .price (priced 240) ∧ price 211 1 .adult 1 = .refused .notOffered ∧
      price 210 0 .adult 1 = .refused .notOffered ∧ price 210 9 .adult 1 = .refused .notOffered ∧
      price 210 8 .adult 10 = .refused .qtyLimit ∧ price 210 1 .adult 0 = .refused .qtyLimit ∧
      salePrice noChild 210 1 .child 1 .card = .refused .notOffered ∧
      2 * ((835 * 1150) % 1000) < 1000 ∧ 1000 ≤ 2 * ((835 * 1100) % 1000) ∧ netFare 10 35 = 6 := by decide +kernel
theorem witness_CancelEndsOrRefunds :
    (confirming.sess 3).state = .selecting ∧ (confirming.sess 3).tInactivity.isSome = true ∧
      (((polled 3 (inState .authorising)).acked .a true).sess 3).state = .authorising ∧
      (let u := (polled 3 (fun c => paying 100 0 { c with coin := { c.coin with flight := some accepted50 } })).acked .a true
       (u.sess 3).state = .paying ∧ (u.coin 3).flight = some accepted50 ∧ accepted50.gateTaken = true) ∧
      (let u := (polled 3 (fun c => paying 100 50 { c with cash := { c.cash with escrow := [{ coinType := some 4, value := 50 }] } })).acked .a true
       (u.sess 3).state = .paying ∧ (u.coin 3).flight = none ∧ (u.cash 3).escrow ≠ [] ∧ (u.cash 3).held = [] ∧
         countKind (u.link 3).queue .escrow = 0) := by decide +kernel
/-- A CANCEL with a coin in flight whose gate is not taken: its GATE is rewritten, and the refund begins. -/
theorem witness_CancelEndsOrRefunds_release :
    let f : Flight := { accepted50 with gateTaken := false }
    let s := polled 3 (fun c => paying 100 0 { c with coin := { c.coin with flight := some f }, link := { c.link with queue := [{ cmd := .gate .escrow .none, sent := none }] } })
    let u := s.acked .a true
    let t := after (.keyCancel .a true) s
    ((u.sess 3).state = .paying ∧ (u.coin 3).flight = some f ∧ f.gateTaken = false ∧ f.route ≠ .ret ∧
      (u.cash 3).held = [] ∧ countKind (u.link 3).queue .escrow = 0) ∧
    (t.coin 3).flight = some { f with route := .ret, reason := .cancelled, released := true } ∧
    ((t.link 3).queue.map (·.cmd)).head? = some (.gate .ret .cancelled) ∧ (t.sess 3).purpose = .refund := by decide +kernel
/-- The inactivity timer and a card removal in PAYING, with the coin past its gate and with none in flight. -/
theorem witness_CancelEndsOrRefunds_causes :
    let topup := polled 3 (fun c => { c with sess := { c.sess with state := .paying, kind := .topup, serial := 7, tInactivity := some 1 },
                                             coin := { c.coin with flight := some accepted50 } })
    let calm := polled 3 (fun c => paying 100 50 { c with cash := { c.cash with escrow := [{ coinType := some 4, value := 50 }] } })
    let shown := fun (s : State) => ((s.sess 3).state, (s.sess 3).cancelCause, (s.disp 3).message)
    ((topup.sess 3).kind ≠ .paperSale ∧ (topup.sess 3).tInactivity.isSome = true ∧ (topup.link 3).state = .present) ∧
    shown (after (.inactivityTimerExpiry 3) topup) = (.cancelling, some .timedOut, .cancelled) ∧
    shown (after (.cardRemoval .a true) topup) = (.cancelling, some .cancelled, .cancelled) ∧
    shown (after (.inactivityTimerExpiry 3) calm) = (.dispensing, some .timedOut, .refund) ∧
    ((after (.keyCancel .a true) calm).cash 3).escrowCmd.map (·.entries) = some [⟨some 4, 50⟩] := by decide +kernel

/-- A session in WRITING whose write was issued. -/
def writing : State :=
  polled 3 (fun c =>
    { c with sess := { c.sess with state := .writing, write := .issued, kind := .topup, card := some card5001, credit := 2020,
                                   fixed := some (pricedTopup 2000), tCardWrite := some 8, serial := 7 },
             card := { c.card with issued := some write5001 } })
theorem witness_CardResultConcludesWrite :
    let u := writing.acked .a true
    (u.kcard 3).issued = some write5001 ∧ (write5001.card = 5001 ∧ write5001.counter = 6) ∧ (write5001.card ≠ 5002) ∧
      (write5001.counter ≠ 7) ∧ (u.sess 3).state = .writing ∧ (u.sess 3).write = .issued ∧
      (writing.sess 3).state = .writing ∧ (writing.sess 3).tCardWrite.isSome = true := by decide +kernel
/-- A completed sale paid in full, a cancel short of its due, and both sides of a stranding. -/
theorem witness_SettlementFiguresBalance :
    let x : Session := { Session.start 7 with fixed := some (priced 60), credit := 100, paidBack := 40, state := .dispensing, purpose := .change }
    let y : Session := { Session.start 7 with fixed := some (priced 60), credit := 50, paidBack := 0, state := .paying }
    x.paidBack + (x.fixed.map (·.due)).getD 0 ≤ x.credit ∧ (x.state = .dispensing ∧ x.purpose = .change) ∧
      y.paidBack ≤ y.credit ∧ ¬(y.state = .writing) ∧ ¬(y.state = .dispensing) := by decide +kernel
/-- The state of session 3 and the kind and figures of the records held. -/
def closed (t : State) : SessState × List (RecordKind × List Nat) :=
  ((t.sess 3).state, t.journal.records.map (fun r => (r.kind, [r.retained, r.paidBack, r.voucher])))
/-- A report of both coins and one of one coin, the payout timer, and the take of an ESCROW RETURN of 50 each close it. -/
theorem witness_SettlementFiguresBalance_closes :
    let u := dispensing.acked .a true
    let back := headed (.escrow .ret 1 []) (fun c =>
      { c with cash := { c.cash with escrowCmd := some { action := .ret, entries := [⟨some 4, 50⟩], dests := [], origin := .session } },
               sess := { c.sess with state := .dispensing, purpose := .refund, credit := 50, returnOut := true, serial := 7 } })
    (u.sess 3).state = .dispensing ∧ (u.sess 3).returnOut = false ∧ (dispensing.sess 3).returnOut = false ∧
      closed (after (.payReport .a true #v[0, 2, 0, 0, 0, 0]) dispensing) = (.idle, [(.sale, [60, 40, 0])]) ∧
      closed (after (.payReport .a true #v[0, 1, 0, 0, 0, 0]) dispensing) = (.idle, [(.sale, [60, 20, 20])]) ∧
      closed (after (.payoutTimerExpiry 3) dispensing) = (.idle, [(.sale, [60, 0, 40])]) ∧
      (back.cash 3).held = [] ∧ (back.sess 3).payoutOut = false ∧
      closed (after (.nil .a true) back) = (.idle, [(.cancel, [0, 50, 0])]) := by decide +kernel

/-- The number 0, the greatest number, a list that holds it and a list that is full. -/
theorem witness_StopListRequests :
    (0 : Word).toNat = 0 ∧ (0xFFFFFFFF : Word).toNat ≠ 0 ∧ (0xFFFFFFFF : Word).toNat ∈ [7, 4294967295] ∧
      (0xFFFFFFFF : Word).toNat ∉ selling.cards.stopList ∧ selling.cards.stopList.length < 4096 ∧
      4096 ≤ (List.range' 1 4096).length ∧ (0xFFFFFFFF : Word).toNat ∉ List.range' 1 4096 ∧
      (selling.sess 3).card.map (·.number) ≠ some 7 :=
  ⟨by decide, by decide, by decide, by decide +kernel, by decide +kernel, by simp, by simp only [List.mem_range'_1]; decide, by decide +kernel⟩
theorem witness_StopListKeptByEveryStep : selling.cards.stopWf ∧ step selling = .next selling :=
  ⟨by unfold Cards.stopWf stopSorted; decide +kernel, rfl⟩

/-- A float of 2000 and an amount of 2000 and 2001, a limit of 3000, a known card and a full table. -/
theorem witness_OfflineRuleKeepsFloatInBalance :
    let s := { selling with cards := { selling.cards with floatRemaining := 2000, offline := [⟨5001, 1000, 0⟩] } }
    let full := { selling with cards := { selling.cards with offline := List.replicate 64 ⟨9, 1, 1⟩ } }
    (∃ e ∈ s.cards.offline, e.card = 5001) ∧ (¬ ∃ e ∈ full.cards.offline, e.card = 5001) ∧ 64 ≤ full.cards.offline.length ∧
      s.activeHeader = some header ∧ offlineTotal s.cards.offline 5001 + 2000 ≤ header.offlineLimit ∧
      header.offlineLimit < offlineTotal s.cards.offline 5001 + 2001 ∧ 2000 ≤ s.cards.floatRemaining ∧
      s.cards.floatRemaining < 2001 ∧ State.reset.activeHeader = none ∧ (s.kcard 3).grant = none := by decide +kernel
/-- A grant of 2000 on a card at total 2000 and at total 3000, delivered and restored. -/
theorem witness_OfflineRuleKeepsFloatInBalance_ends :
    let at_ := fun (total : Nat) => { polled 3 (fun c => { c with card := { c.card with grant := some ⟨5001, 2000⟩ } }) with
      cards := { selling.cards with floatSet := 5000, floatRemaining := 1000, offline := [⟨5001, total, 2000⟩, ⟨9, 1, 0⟩] } }
    let figures := fun (s : State) => (s.cards.floatRemaining, s.cards.delivered, s.cards.offline)
    ((at_ 2000).kcard 3).grant = some ⟨5001, 2000⟩ ∧
      figures (deliverGrant 3 (at_ 2000)) = (1000, 2000, [⟨5001, 2000, 0⟩, ⟨9, 1, 0⟩]) ∧
      figures (restoreGrant 3 (at_ 2000)) = (3000, 0, [⟨9, 1, 0⟩]) ∧
      figures (restoreGrant 3 (at_ 3000)) = (3000, 0, [⟨5001, 1000, 0⟩, ⟨9, 1, 0⟩]) := by decide +kernel
theorem witness_FloatSetEstablishesFloat :
    500000 < (500001 : Triple).toNat ∧ (500000 : Triple).toNat ≤ 500000 ∧ selling.heldTotal ≤ (0 : Triple).toNat ∧
      (1999 : Triple).toNat < (polled 3 (fun c => { c with card := { c.card with grant := some ⟨5001, 2000⟩ } })).heldTotal := by
  decide +kernel

/-- A session in AUTHORISING with its request listed as attempt 1 of serial 7. -/
def authorising : State :=
  let s := polled 3 (fun c =>
    { c with sess := { c.sess with state := .authorising, kind := .topup, card := some card5001, serial := 7,
                                   fixed := some (pricedTopup 2000), tAuthorisation := some 5 },
             card := { c.card with lastRequest := some ⟨7, 2, .listed⟩ } })
  { s with cards := { s.cards with floatSet := 2000, floatRemaining := 2000, authList := [⟨3, 7, 2, 5001, .adult, 0, 2000, false⟩] } }
theorem witness_AuthorisationsConcluded :
    (3 : Byte).toNat = (3 : Kiosk).val ∧ (2 : Byte) ≠ 0 ∧
      (∃ e ∈ authorising.cards.authList, e.kiosk = 3 ∧ e.serial = (7 : Half).toNat ∧ e.attempt = (2 : Byte).toNat) ∧
      (∀ e ∈ authorising.cards.authList, ¬(e.kiosk = 3 ∧ e.serial = (7 : Half).toNat ∧ e.attempt = (1 : Byte).toNat)) ∧
      (selling.kcard 3).lastRequest = none ∧ (authorising.kcard 3).lastRequest = some ⟨7, 2, .listed⟩ ∧ (1 : Byte).toNat < 2 ∧
      (authorising.sess 3).tAuthorisation.isSome = true ∧ (authorising.sess 3).state = .authorising ∧
      (authorising.sess 3).card = some card5001 ∧ (authorising.sess 3).fixed = some (pricedTopup 2000) ∧
      offlineDenial authorising card5001.number 2000 = none ∧
      offlineDenial { authorising with cards := { authorising.cards with floatRemaining := 1999 } } card5001.number 2000 =
        some .floatExhausted := by decide +kernel
/-- The number 5001 meets a session in AUTHORISING, one in PAYING past its gate, one with no coin, and one of a paper sale. -/
theorem witness_StopListRequests_sessions :
    let add := fun (s : State) => after (.stoplistAdd 5001) s
    let waiting := { authorising with journal := { authorising.journal with reservations := 1 } }
    let paid := fun (kind : SessKind) (f : Option Flight) => polled 3 (fun c => { c with
      sess := { c.sess with state := .paying, kind := kind, serial := 7, card := some card5001, fixed := some (pricedTopup 2000) },
      coin := { c.coin with flight := f } })
    ((authorising.sess 3).card.map (·.number) = some 5001 ∧ ((add waiting).sess 3).state = .selecting ∧
      ((add waiting).disp 3).message = .cardBlocked ∧ ((add waiting).kcard 3).lastRequest = some ⟨7, 2, .stoplist⟩ ∧
      (add waiting).cards.authList = [] ∧ (add waiting).journal.reservations = 0) ∧
    ((paid .topup none).sess 3).kind ≠ .paperSale ∧ ((paid .topup none).sess 3).write = .none ∧
    ((add (paid .topup (some accepted50))).sess 3).state = .cancelling ∧
    ((add (paid .topup (some accepted50))).disp 3).message = .cancelled ∧
    ((add (paid .topup none)).sess 3).purpose = .refund ∧ ((add (paid .topup none)).sess 3).state = .idle ∧
    (add (paid .paperSale none)).sess 3 = (paid .paperSale none).sess 3 := by decide +kernel

/-- A template of 49 lines by nesting is not needed: a write UNKNOWN with no line, and a write NONE. -/
theorem witness_PrintedLinesBounded :
    let c : Closed := { kiosk := 3, sess := { Session.start 7 with write := .unknown }, outcome := .completed, time := DateTime.epoch, day := 0 }
    (c.sess.write = .unknown ∨ c.sess.write = .issued) ∧ (Session.start 7).write ≠ .unknown ∧ (Session.start 7).write ≠ .issued ∧
      ∀ x ∈ (expandTemplate selling c 2 (chosenTemplate selling c.outcome c.sess.kind)).1.take 48, x.fromStatus = false := by decide +kernel
/-- A template whose expansion has 72 lines. -/
theorem witness_PrintedLinesBounded_cut :
    let feed : LineRecord := { condition := .always, body := .feed 3 }
    let s := { selling with templates := selling.templates.set 0 (Vector.replicate 24 (some feed)) }
    let c : Closed := { kiosk := 3, sess := Session.start 7, outcome := .completed, time := DateTime.epoch, day := 0 }
    48 < (expandTemplate s c 2 (chosenTemplate s c.outcome c.sess.kind)).1.length := by decide +kernel
theorem witness_PrinterCreditSendsLines :
    let job : Job := ⟨7, [[], [], [], [], []], 2, 1, false, false, false, .streaming⟩
    let u := (polled 3 (fun c => { c with jobs := [job] })).acked .a true
    (1 ≤ 1 ∧ 1 ≤ 8) ∧ u.jobs 3 = job :: [] ∧ job.state ≠ .suspended ∧ countKind (u.link 3).queue .print < 2 ∧
      job.taken + job.inFlight < job.lines.length ∧ ((polled 3 id).acked .a true).jobs 3 = [] ∧
      ({ job with state := .suspended } : Job).state = .suspended ∧
      ({ job with taken := 4 } : Job).lines.length ≤ ({ job with taken := 4 } : Job).taken + job.inFlight ∧
      2 ≤ countKind [{ cmd := .print [] false, sent := none }, { cmd := .print [] true, sent := some true }] .print := by decide +kernel
/-- An empty queue, and a record with the occupancy at 192. -/
theorem witness_JournalReadAndPop :
    let r := recordOf 3 .cancelled false .notWanted selling
    selling.journal.records = [] ∧
      ({ selling with journal := { records := [r], reservations := 191, highFlag := true } } : State).journal.records = r :: [] := by
  decide +kernel

theorem witness_ClockAdvancesOneSecond :
    State.reset.clock.state = .invalid ∧ selling.clock.state = .valid ∧ selling.clock.dateTime.real = true ∧
      (⟨2099, 12, 31, 23, 59, 59⟩ : DateTime).real = true ∧ (⟨2024, 2, 29, 23, 59, 59⟩ : DateTime).real = true ∧
      (⟨2024, 3, 4, 7, 40, 0⟩ : DateTime) ≠ ⟨2099, 12, 31, 23, 59, 59⟩ := by decide +kernel
theorem witness_ClockSetKeepsHeldDay :
    dateTimeOf ⟨23, 2, 29, 0, 0, 0⟩ = none ∧ dateTimeOf ⟨99, 12, 31, 23, 59, 59⟩ = some ⟨2099, 12, 31, 23, 59, 59⟩ ∧
      State.reset.clock.state = .invalid ∧ selling.clock.state = .valid ∧
      selling.clock.heldDay < serviceDay ⟨2099, 12, 31, 23, 59, 59⟩ selling.settings.boundary := by decide +kernel
theorem witness_HeldDayNeverFalls :
    (∀ pins, Instr.clockSecond ≠ .coldStart pins) ∧ selling.clock.state = .valid ∧
      exec .clockSecond selling = .next (after .clockSecond selling) := ⟨by decide, rfl, rfl⟩

theorem witness_DepotLinkChangesState :
    selling.depot.link = .online .r9600 ∧ State.reset.depot.link = .search .r9600 ∧
      ({ selling.depot with link := .hold .r115200 } : Depot).link = .hold .r115200 := by decide +kernel
theorem witness_FramesWithoutReplyAndEnvelopes :
    selling.depot.restartOwed = false ∧ (0x7F : Byte).toNat < 128 ∧ (0x3F : Byte).toNat < 0x40 ∧ 0x54 < (0x55 : Byte).toNat ∧
      (0x40 ≤ (0x40 : Byte).toNat ∧ (0x54 : Byte).toNat ≤ 0x54) ∧ requestLength 0x40 [0] = some 0 ∧ 0 ≠ ([0] : List Byte).length := by
  decide +kernel
/-- The greatest set, a set one kind above it, and the pending level kind AUTH_PENDING. -/
theorem witness_EventRequests :
    2 ^ 24 ≤ (0x1000000 : Word).toNat ∧ (0xFFFFFF : Word).toNat < 2 ^ 24 ∧ (0xFFFFFF : Word).getLsbD EventKind.linkRestored.no.val = true ∧
      (0 : Word).getLsbD EventKind.restarted.no.val = false ∧
      ((frameForStation selling).depot.events[EventKind.restarted.no]).on = true ∧ EventKind.restarted ∉ levelEvents ∧
      EventKind.authPending ∈ levelEvents ∧
      ((frameForStation (raise .authPending none selling)).depot.events[EventKind.authPending.no]).on = true := by decide +kernel
theorem witness_KioskReadAndServiceControl :
    (15 : Byte).toNat = (15 : Kiosk).val ∧ 16 ≤ (16 : Byte).toNat ∧ (selling.link 3).state = .unused ∧ ((polled 3 id).link 3).state ≠ .unused ∧
      ((polled 3 id).sess 3).state = .idle ∧ ((polled 3 id).svc 3).out = false ∧ (polled 3 id).depot.mode = .selling ∧
      (let s := polled 3 (fun c => { c with svc := { c.svc with server := true } })
       (s.svc 3).out = true ∧ (s.svc 3).service = false) ∧
      ((polled 3 (inState .paying)).sess 3).state ≠ .idle := by decide +kernel
/-- The three modes; the clock INVALID; no ACTIVE bank; all tables complete; a session that runs. -/
theorem witness_ModeSetJudged :
    let whole := { polled 3 (fun c => { c with cash := { c.cash with tubes := c.cash.tubes.set 0 (tubeAt 4 1) } }) with
      coins := coinTable, depot := { selling.depot with mode := .suspended } }
    State.reset.depot.mode = .loading ∧ selling.depot.mode = .selling ∧ State.reset.clock.state = .invalid ∧
      ({ State.reset with clock := selling.clock } : State).tariff.active = none ∧
      (whole.depot.mode ≠ .selling ∧ whole.clock.state = .valid ∧ whole.tariff.active.isSome = true ∧
        whole.coins[(4 : CoinType)] = some fifty ∧ fifty.use = .accept ∧
        ((whole.cash 3).tubes[(0 : TubeNo)]).coinType.isSome = true ∧ (∀ k : Kiosk, k ≠ 3 → (whole.link k).state = .unused) ∧
        ∀ k : Kiosk, (whole.sess k).state = .idle) ∧
      ((polled 3 (inState .selecting)).sess 3).state ≠ .idle := by decide +kernel
/-- SUSPENDED named in SUSPENDED; no ACCEPT entry; a configured kiosk without a tube in use. -/
theorem witness_ModeSetJudged_incomplete :
    let held := { polled 3 id with depot := { selling.depot with mode := .suspended } }
    let coined := { held with coins := coinTable }
    held.depot.mode = .suspended ∧ statusByte (after .modeSetSuspended held) = some 0 ∧
      held.tariff.active.isSome = true ∧ (∀ i : CoinType, held.coins[i] = none) ∧
      (after .modeSetSelling held).depot.reply.map (fun r => r.drop 5 |>.take 3) = some [18, 3, 0] ∧
      ((coined.link 3).state ≠ .unused ∧ (∀ n : TubeNo, ((coined.cash 3).tubes[n]).coinType = none) ∧
        ∀ j : Kiosk, j < 3 → (coined.link j).state = .unused) ∧
      (after .modeSetSelling coined).depot.reply.map (fun r => r.drop 5 |>.take 3) = some [18, 4, 3] := by decide +kernel
/-- Units at the ends of their ranges. -/
theorem witness_UnbankedWritesReplaceUnit :
    let u : CalibUnit := ⟨511, 3, 0, 0, 511, 3⟩
    u.offset1.toNat ≤ 511 ∧ u.offset2.toNat ≤ 511 ∧ u.offset3.toNat ≤ 511 ∧ u.gain1.toNat ≤ 3 ∧ u.gain2.toNat ≤ 3 ∧ u.gain3.toNat ≤ 3 ∧
      (15 ≤ (15 : Half).toNat ∧ (120 : Half).toNat ≤ 120) ∧ (2 ≤ (2 : Half).toNat ∧ (20 : Half).toNat ≤ 20) ∧
      (1 ≤ (1 : Half).toNat ∧ (60 : Half).toNat ≤ 60) ∧ (1439 : Half).toNat ≤ 1439 ∧ (15 : Half).toNat = (15 : Fin 16).val ∧
      (bytes 32 0).length = 32 ∧ templateOf ⟨0, 0, bytes 32 0⟩ = some none ∧
      templateOf ⟨4, 5, 3 :: bytes 31 0⟩ = some (some { condition := .ifRefund, body := .feed 3 }) := by decide +kernel
theorem witness_KioskTableConfigures :
    (15 : Byte).toNat = (15 : Kiosk).val ∧ (selling.link 15).state = .unused ∧ ((polled 15 id).link 15).state ≠ .unused ∧
      ((polled 15 id).sess 15).state = .idle ∧ ((polled 15 (inState .selecting)).sess 15).state ≠ .idle := by decide +kernel
/-- Kiosk 9 configured while an exchange runs on its loop, and kiosk 15 unconfigured while the exchange is its own. -/
theorem witness_KioskTableConfigures_exchange :
    let s := polled 15 id
    ((s.loop (loopOf 9)).exchange.isSome = true ∧ (s.link 9).state = .unused ∧
      ((after (.tableWriteKiosk 9 1) s).loop .b).joining = [9]) ∧
    (s.loop (loopOf 15)).exchange.map (·.kiosk) = some 15 ∧ ((after (.tableWriteKiosk 15 0) s).loop .b).exchange = none := by
  decide +kernel

end Sys2Proof.Tests
end

section
/-! SUPPORT. Escrow, tubes and the coin inlet (chapter 3): the rules about drops, tubes, payout orders and the inlet, and the
settlement of the statements of that chapter. -/

namespace Sys2Proof.Machine

/-! ### The destinations of a drop (R39) -/

/-- The tube found for a type holds it (section 3.2). -/
theorem coinType_of_tubeHolding {tubes : Vector Tube 6} {t : CoinType} {n : TubeNo} (h : tubeHolding tubes t = some n) :
    (tubes[n]).coinType = some t := by
  simpa using List.find?_some h

theorem mem_allTubes (n : TubeNo) : n ∈ allTubes := by revert n; decide

/-- A tube that alone holds a type is the one found. -/
theorem tubeHolding_eq_some {tubes : Vector Tube 6} {t : CoinType} {n : TubeNo} (h : (tubes[n]).coinType = some t)
    (only : ∀ m : TubeNo, (tubes[m]).coinType = some t → m = n) : tubeHolding tubes t = some n := by
  cases hf : tubeHolding tubes t with
  | none => exact absurd h (by simpa using List.find?_eq_none.mp hf n (mem_allTubes n))
  | some m => rw [only m (coinType_of_tubeHolding hf)]

/-- No tube is found for a type that none holds. -/
theorem tubeHolding_eq_none {tubes : Vector Tube 6} {t : CoinType} (h : ∀ n : TubeNo, (tubes[n]).coinType ≠ some t) :
    tubeHolding tubes t = none :=
  List.find?_eq_none.mpr fun n _ => by simpa using h n

/-- Where one entry of a DROP goes, `sent` being the tubes that the entries before it were sent to (R39). -/
def dropDest (tubes : Vector Tube 6) (sent : List TubeNo) (e : EscrowEntry) : Dest :=
  match e.coinType.bind (tubeHolding tubes) with
  | some n => if (tubes[n]).count + sent.countP (fun m => decide (m = n)) < (tubes[n]).capacity then .tube n else .cashbox
  | none => .cashbox

/-- The first entry goes to its own destination, and the entries behind it see that tube as sent to once more. -/
theorem dropDests_cons (tubes : Vector Tube 6) (sent : List TubeNo) (e : EscrowEntry) (es : List EscrowEntry) :
    ∃ sent', dropDests tubes sent (e :: es) = dropDest tubes sent e :: dropDests tubes sent' es ∧
      ∀ n : TubeNo, sent'.countP (fun m => decide (m = n)) =
        sent.countP (fun m => decide (m = n)) + if dropDest tubes sent e = .tube n then 1 else 0 := by
  cases hb : e.coinType.bind (tubeHolding tubes) with
  | none => exact ⟨sent, by simp only [dropDests, dropDest, hb], fun n => by simp [dropDest, hb]⟩
  | some n =>
    by_cases hr : (tubes[n]).count + sent.countP (fun m => decide (m = n)) < (tubes[n]).capacity
    · have hd : dropDest tubes sent e = .tube n := by simp only [dropDest, hb, if_pos hr]
      exact ⟨n :: sent, by simp only [dropDests, hd, hb, if_pos hr], fun m => by simp [hd, List.countP_cons]⟩
    · have hd : dropDest tubes sent e = .cashbox := by simp only [dropDest, hb, if_neg hr]
      exact ⟨sent, by simp only [dropDests, hd, hb, if_neg hr], fun m => by simp [hd]⟩

theorem length_dropDests (tubes : Vector Tube 6) (sent : List TubeNo) (entries : List EscrowEntry) :
    (dropDests tubes sent entries).length = entries.length := by
  induction entries generalizing sent with
  | nil => rfl
  | cons e es ih =>
    obtain ⟨sent', he, -⟩ := dropDests_cons tubes sent e es
    simp [he, ih]

/-- Each entry goes where it would go behind the tubes sent to before it: those of `sent` and those of the entries ahead. -/
theorem getElem?_dropDests (tubes : Vector Tube 6) (sent : List TubeNo) (entries : List EscrowEntry) (i : Nat)
    (e : EscrowEntry) (h : entries[i]? = some e) :
    ∃ sent', (dropDests tubes sent entries)[i]? = some (dropDest tubes sent' e) ∧
      ∀ n : TubeNo, sent'.countP (fun m => decide (m = n)) = sent.countP (fun m => decide (m = n)) +
        ((dropDests tubes sent entries).take i).countP (fun d => decide (d = .tube n)) := by
  induction entries generalizing sent i with
  | nil => simp at h
  | cons x xs ih =>
    obtain ⟨next, hx, hnext⟩ := dropDests_cons tubes sent x xs
    cases i with
    | zero =>
      obtain rfl : x = e := by simpa using h
      exact ⟨sent, by simp [hx], by simp⟩
    | succ i =>
      obtain ⟨sent', hd, hc⟩ := ih next i (by simpa using h)
      refine ⟨sent', by simpa [hx] using hd, fun n => ?_⟩
      rw [hc, hnext, hx, List.take_succ_cons, List.countP_cons]
      simp only [decide_eq_true_eq]
      omega

/-- An entry whose type a tube alone holds goes there while it has room (R39). -/
theorem dropDest_of_holds {tubes : Vector Tube 6} {e : EscrowEntry} {n : TubeNo} {t : CoinType} (sent : List TubeNo)
    (he : e.coinType = some t) (h : (tubes[n]).coinType = some t)
    (only : ∀ m : TubeNo, (tubes[m]).coinType = some t → m = n) :
    dropDest tubes sent e =
      if (tubes[n]).count + sent.countP (fun m => decide (m = n)) < (tubes[n]).capacity then .tube n else .cashbox := by
  simp [dropDest, he, tubeHolding_eq_some h only]

/-- An entry without a type, or whose type no tube holds, goes to the cashbox (R39). -/
theorem dropDest_of_unheld {tubes : Vector Tube 6} {e : EscrowEntry} (sent : List TubeNo)
    (h : ∀ (n : TubeNo) (t : CoinType), e.coinType = some t → (tubes[n]).coinType ≠ some t) :
    dropDest tubes sent e = .cashbox := by
  cases he : e.coinType with
  | none => simp [dropDest, he]
  | some t => simp [dropDest, he, tubeHolding_eq_none fun n => h n t he]

/-- An entry sent to a tube finds room there and has the type that the tube holds. -/
theorem dropDest_tube {tubes : Vector Tube 6} {sent : List TubeNo} {e : EscrowEntry} {n : TubeNo}
    (h : dropDest tubes sent e = .tube n) :
    (tubes[n]).count + sent.countP (fun m => decide (m = n)) < (tubes[n]).capacity ∧
      ∃ t, e.coinType = some t ∧ (tubes[n]).coinType = some t := by
  unfold dropDest at h
  split at h
  next m hb =>
    obtain ⟨t, ht, hm⟩ := Option.bind_eq_some_iff.mp hb
    split at h
    next hr => cases h; exact ⟨hr, t, ht, coinType_of_tubeHolding hm⟩
    next => cases h
  next => cases h

theorem dropDest_cashbox_or_tube {tubes : Vector Tube 6} {sent : List TubeNo} {e : EscrowEntry} :
    dropDest tubes sent e = .cashbox ∨ ∃ n, dropDest tubes sent e = .tube n := by
  unfold dropDest
  split
  · split
    · exact .inr ⟨_, rfl⟩
    · exact .inl rfl
  · exact .inl rfl

/-- No tube is sent more coins than it has room for. -/
theorem dropDests_fit (tubes : Vector Tube 6) (n : TubeNo) (sent : List TubeNo) (entries : List EscrowEntry)
    (h : (tubes[n]).count + sent.countP (fun m => decide (m = n)) ≤ (tubes[n]).capacity) :
    (tubes[n]).count + sent.countP (fun m => decide (m = n)) +
      (dropDests tubes sent entries).countP (fun d => decide (d = .tube n)) ≤ (tubes[n]).capacity := by
  induction entries generalizing sent with
  | nil => simpa [dropDests] using h
  | cons e es ih =>
    obtain ⟨next, he, hnext⟩ := dropDests_cons tubes sent e es
    have hroom : (tubes[n]).count + next.countP (fun m => decide (m = n)) ≤ (tubes[n]).capacity := by
      rw [hnext]
      split
      next hd => exact (dropDest_tube hd).1
      next => exact h
    have hrest := ih next hroom
    rw [hnext] at hrest
    rw [he, List.countP_cons]
    simp only [decide_eq_true_eq]
    omega

/-- Settles O21, entry by entry: each destination is judged behind the destinations before it. -/
theorem dropFitsTheTubes : Obligations.DropFitsTheTubes := by
  intro tubes entries
  refine ⟨length_dropDests tubes [] entries, fun i e hi => ?_, fun n hn => ?_, fun p hp => ?_⟩
  · obtain ⟨sent, hd, hc⟩ := getElem?_dropDests tubes [] entries i e hi
    refine ⟨fun n t he hn only => ?_, fun hu => ?_⟩
    · rw [hd, dropDest_of_holds sent he hn only, hc n]
      simp
    · rw [hd, dropDest_of_unheld sent hu]
  · simpa using dropDests_fit tubes n [] entries (by simpa using hn)
  · obtain ⟨i, hi⟩ := List.mem_iff_getElem?.mp hp
    obtain ⟨he, hd⟩ := List.getElem?_zip_eq_some.mp hi
    obtain ⟨sent, hs, -⟩ := getElem?_dropDests tubes [] entries i p.1 he
    have hp2 : p.2 = dropDest tubes sent p.1 := by simpa [hs] using hd.symm
    obtain hc | ⟨n, hn⟩ := dropDest_cashbox_or_tube (tubes := tubes) (sent := sent) (e := p.1)
    · exact .inl (hp2.trans hc)
    · obtain ⟨-, t, ht, hh⟩ := dropDest_tube hn
      exact .inr ⟨n, t, hp2.trans hn, ht, hh⟩

/-! ### Changes of one kiosk's Cash Unit -/

/-- Two changes of a Cash Unit that agree on what it holds are one. -/
theorem State.updCash_congr {s : State} {k : Kiosk} {f g : KCash → KCash} (h : f (s.cash k) = g (s.cash k)) :
    s.updCash k f = s.updCash k g := by
  have h : f (s.ctx k).cash = g (s.ctx k).cash := h
  simp [State.updCash, State.upd, h]

/-- A change that leaves the Cash Unit as it is changes nothing. -/
theorem State.updCash_eq_self {s : State} {k : Kiosk} {f : KCash → KCash} (h : f (s.cash k) = s.cash k) :
    s.updCash k f = s := by
  refine State.ext_ctx (fun j => ?_) rfl rfl rfl rfl rfl rfl rfl rfl rfl rfl rfl
  have h : f (s.ctx k).cash = (s.ctx k).cash := h
  rw [State.updCash, State.ctx_upd]
  split
  next hj => rw [hj, h]
  next => rfl

@[simp] theorem State.updCash_updCash (s : State) (k : Kiosk) (f g : KCash → KCash) :
    (s.updCash k f).updCash k g = s.updCash k (fun c => g (f c)) := by
  simp [State.updCash]

/-! ### Good replies and heard requests -/

/-- A good reply from a PRESENT kiosk is delivered, and the next poll goes out (R3, R4). -/
theorem goodReply_of_polls {s : State} {l : LoopId} {k : Kiosk} (h : s.polls l k) (a : Bool) (deliver : Kiosk → State → State) :
    goodReply l a deliver s = nextPoll l (deliver k (s.acked l a)) := by
  obtain ⟨hx, hp⟩ := h
  obtain ⟨x, he, rfl⟩ := Option.map_eq_some_iff.mp hx
  simp [goodReply, State.acked, he, hp]

/-- Counts up to 250 are within the range of their fields (Table 12-4). -/
theorem countsWellFormed_of_le {counts : Vector Nat 6} (h : ∀ n : TubeNo, counts[n] ≤ 250) : countsWellFormed counts = true := by
  simp only [countsWellFormed, List.all_eq_true, decide_eq_true_eq, Vector.mem_toList_iff]
  intro c hc
  obtain ⟨i, hi, rfl⟩ := Vector.mem_iff_getElem.mp hc
  exact h ⟨i, hi⟩

/-- A raised kind is pending with the kiosk it names (R184). -/
theorem events_raise_self (e : EventKind) (k : Kiosk) (s : State) :
    ((raise e (some k) s).depot.events[e.no]).on = true ∧ k ∈ ((raise e (some k) s).depot.events[e.no]).kiosks := by
  rw [events_raise, if_pos rfl]
  exact ⟨rfl, (mem_insertKiosk k k _).mpr (.inl rfl)⟩

/-- Raising one kind keeps another pending, with its kiosks (R184). -/
theorem events_raise_keeps {e : EventKind} {k : Kiosk} {s : State}
    (h : (s.depot.events[e.no]).on = true ∧ k ∈ (s.depot.events[e.no]).kiosks) (f : EventKind) (n : Option Kiosk) :
    ((raise f n s).depot.events[e.no]).on = true ∧ k ∈ ((raise f n s).depot.events[e.no]).kiosks := by
  rw [events_raise]
  split
  next he =>
    subst he
    cases n with
    | none => exact ⟨rfl, h.2⟩
    | some j => exact ⟨rfl, (mem_insertKiosk j k _).mpr (.inr h.2)⟩
  next => exact h

/-! ### Tubes (R42, R44, R46, R47) -/

theorem getElem_mapTubes (f : TubeNo → Tube → Tube) (v : Vector Tube 6) (n : TubeNo) : (mapTubes f v)[n] = f n v[n] := by
  match n with
  | 0 | 1 | 2 | 3 | 4 | 5 => rfl

/-- A tube record with its low flag judged (R47 step 1). -/
def Tube.judged (t : Tube) : Tube := { t with lowFlag := t.lowDue }

/-- A noted tube has its low flag judged; nothing else of the Cash Unit changes (R47). -/
theorem tubeNote_cash (k : Kiosk) (n : TubeNo) (old : Tube) (s : State) (j : Kiosk) :
    (tubeNote k n old s).cash j = (s.updCash k (fun c => { c with tubes := c.tubes.set n (s.cash k).tubes[n].judged })).cash j := by
  unfold tubeNote Tube.judged
  simp only [recompute_cash]
  split <;> split <;> simp

@[simp] theorem tubeNote_sess (k : Kiosk) (n : TubeNo) (old : Tube) (s : State) (j : Kiosk) :
    (tubeNote k n old s).sess j = s.sess j := by
  unfold tubeNote
  simp only [recompute_sess]
  split <;> split <;> simp

@[simp] theorem tubeNote_coin (k : Kiosk) (n : TubeNo) (old : Tube) (s : State) (j : Kiosk) :
    (tubeNote k n old s).coin j = s.coin j := by
  unfold tubeNote
  simp only [recompute_coin]
  split <;> split <;> simp

@[simp] theorem tubeNote_coins (k : Kiosk) (n : TubeNo) (old : Tube) (s : State) : (tubeNote k n old s).coins = s.coins := by
  unfold tubeNote
  simp only [recompute_coins]
  split <;> split <;> simp

/-- TUBE_LOW is raised where the low flag is newly set (R47 step 1). -/
theorem tubeNote_raises_tubeLow {k : Kiosk} {n : TubeNo} {s : State} (old : Tube)
    (hd : ((s.cash k).tubes[n]).lowDue = true) (hf : ((s.cash k).tubes[n]).lowFlag = false) :
    ((tubeNote k n old s).depot.events[EventKind.tubeLow.no]).on = true ∧
      k ∈ ((tubeNote k n old s).depot.events[EventKind.tubeLow.no]).kiosks := by
  unfold tubeNote
  simp only [recompute_depot, if_pos (And.intro hd hf)]
  split
  · exact events_raise_keeps (events_raise_self _ _ _) _ _
  · exact events_raise_self _ _ _

/-- A written tube holds the record with its low flag judged (R42, R47). -/
theorem writeTube_cash (k : Kiosk) (n : TubeNo) (t : Tube) (s : State) (j : Kiosk) :
    (writeTube k n t s).cash j = (s.updCash k (fun c => { c with tubes := c.tubes.set n t.judged })).cash j := by
  simp [writeTube, tubeNote_cash]

@[simp] theorem writeTube_sess (k : Kiosk) (n : TubeNo) (t : Tube) (s : State) (j : Kiosk) :
    (writeTube k n t s).sess j = s.sess j := by simp [writeTube]
@[simp] theorem writeTube_coin (k : Kiosk) (n : TubeNo) (t : Tube) (s : State) (j : Kiosk) :
    (writeTube k n t s).coin j = s.coin j := by simp [writeTube]
@[simp] theorem writeTube_coins (k : Kiosk) (n : TubeNo) (t : Tube) (s : State) : (writeTube k n t s).coins = s.coins := by
  simp [writeTube]

/-- TUBE_LOW is raised where the written record is due a low flag that it does not carry (R47 step 1). -/
theorem writeTube_raises_tubeLow {t : Tube} (k : Kiosk) (n : TubeNo) (s : State) (hd : t.lowDue = true) (hf : t.lowFlag = false) :
    ((writeTube k n t s).depot.events[EventKind.tubeLow.no]).on = true ∧
      k ∈ ((writeTube k n t s).depot.events[EventKind.tubeLow.no]).kiosks :=
  tubeNote_raises_tubeLow _ (by simpa using hd) (by simpa using hf)

/-! ### TUBE writes (R42) -/

/-- A unit within the ranges of R42 is read as its record. -/
theorem tubeOf_typed {u : TubeUnit} {i : CoinType} (old : Tube) (hi : u.coinType.toNat = i.val) (h1 : 1 ≤ u.capacity.toNat)
    (h2 : u.capacity.toNat ≤ 250) (h3 : u.count.toNat ≤ u.capacity.toNat) (h4 : u.lowMark.toNat ≤ u.capacity.toNat) :
    tubeOf u old = some { old with coinType := some i, capacity := u.capacity.toNat, count := u.count.toNat,
                                   lowMark := u.lowMark.toNat, state := .payable } := by
  have hne : u.coinType ≠ 0xFF#8 := by
    intro h
    rw [h] at hi
    have := i.isLt
    simp at hi
    omega
  simp [tubeOf, hne, finOf_eq hi, within, h1, h2, h3, h4]

/-- A type that no other tube holds is free for the tube written (R42). -/
theorem tubeTaken_eq_false {tubes : Vector Tube 6} {n : TubeNo} {i : CoinType}
    (h : ∀ m : TubeNo, m ≠ n → (tubes[m]).coinType ≠ some i) : tubeTaken tubes n (some i) = false := by
  simp only [tubeTaken, Option.isSome_some, Bool.true_and, List.any_eq_false, decide_eq_true_eq, not_and]
  exact fun m _ hm => h m hm

/-- A TUBE write of a good record to an IDLE kiosk is taken (R42). -/
theorem exec_tableWriteTube_taken {index tube : Byte} {u : TubeUnit} {k : Kiosk} {n : TubeNo} {s : State} {t : Tube}
    (hs : s.hears) (hk : index.toNat = k.val) (hn : tube.toNat = n.val) (hidle : (s.sess k).state = .idle)
    (ht : tubeOf u (s.cash k).tubes[n] = some t) (hfree : tubeTaken (s.cash k).tubes n t.coinType = false) :
    exec (.tableWriteTube index tube u) s = .next ((writeTube k n t (frameForStation s)).withReply 0x42 .ok []) := by
  have hd : doWriteTube index tube u (frameForStation s) =
      (writeTube k n t (frameForStation s), { status := .ok, data := [] }) := by
    simp only [doWriteTube, kioskOf, finOf_eq hk, finOf_eq hn, frameForStation_cash, ht, hfree, frameForStation_sess, hidle]
    rfl
  show Host.Outcome.next (depotRequest 0x42 (doWriteTube index tube u) s) = _
  rw [depotRequest_heard hs, hd]

/-- What a taken TUBE write leaves: the record judged in its place, the answer OK, and all else as it was (R42, R47). -/
theorem writeTube_answered {k : Kiosk} {n : TubeNo} {r : Tube} {s t : State}
    (ht : t = (writeTube k n r (frameForStation s)).withReply 0x42 .ok []) :
    (t.cash k).tubes = (s.cash k).tubes.set n r.judged ∧
      t.depot.reply = some (replyFrame 0x42 { status := .ok, data := [] } t) ∧
      (t.cash k).escrow = (s.cash k).escrow ∧ (t.cash k).inlet = (s.cash k).inlet ∧ t.coins = s.coins ∧
      (∀ j, j ≠ k → t.cash j = s.cash j) ∧ ∀ j, t.sess j = s.sess j ∧ t.coin j = s.coin j := by
  subst ht
  refine ⟨?_, withReply_reply _ _ _ _, ?_, ?_, ?_, fun j hj => ?_, fun j => ?_⟩
  · simp [writeTube_cash]
  · simp [writeTube_cash]
  · simp [writeTube_cash]
  · simp
  · simp [writeTube_cash, hj]
  · simp

/-- Settles O22: both writes are taken, and a taken write is `writeTube` of its record. -/
theorem tubeWriteReplacesRecord : Obligations.TubeWriteReplacesRecord := by
  intro index tube u k n s hs hk hn hidle
  refine ⟨fun i hi h1 h2 h3 h4 hfree => ?_, fun hnone => ?_⟩
  · have ht := tubeOf_typed (s.cash k).tubes[n] hi h1 h2 h3 h4
    obtain ⟨htubes, hrest⟩ := writeTube_answered (k := k) (n := n) (s := s) rfl
    refine ⟨_, exec_tableWriteTube_taken hs hk hn hidle ht (tubeTaken_eq_false hfree), ?_, fun hlow hflag => ?_, hrest⟩
    · simpa [Tube.judged, Tube.lowDue] using htubes
    · simp only [withReply_depot]
      exact writeTube_raises_tubeLow _ _ _ (by simpa [Tube.lowDue] using hlow) hflag
  · have ht : tubeOf u (s.cash k).tubes[n] = some { (s.cash k).tubes[n] with coinType := none, count := 0, state := .payable } := by
      simp [tubeOf, hnone]
    obtain ⟨htubes, hrest⟩ := writeTube_answered (k := k) (n := n) (s := s) rfl
    refine ⟨_, exec_tableWriteTube_taken hs hk hn hidle ht rfl, ?_, hrest⟩
    simpa [Tube.judged, Tube.lowDue] using htubes

/-! ### Tubes that change together (R47) -/

/-- The record of a tube after a change from `old` to `new`: judged where its count or its state changed (R47). -/
def noteChange (old new : Tube) : Tube := if old.count = new.count ∧ old.state = new.state then new else new.judged

/-- A note of a change keeps all of the new record but its low flag. -/
@[simp] theorem noteChange_coinType (old new : Tube) : (noteChange old new).coinType = new.coinType := by
  unfold noteChange Tube.judged; split <;> rfl
@[simp] theorem noteChange_capacity (old new : Tube) : (noteChange old new).capacity = new.capacity := by
  unfold noteChange Tube.judged; split <;> rfl
@[simp] theorem noteChange_count (old new : Tube) : (noteChange old new).count = new.count := by
  unfold noteChange Tube.judged; split <;> rfl
@[simp] theorem noteChange_state (old new : Tube) : (noteChange old new).state = new.state := by
  unfold noteChange Tube.judged; split <;> rfl

/-- A tube that keeps its record is not noted. -/
@[simp] theorem noteChange_self (t : Tube) : noteChange t t = t := by simp [noteChange]

/-- One step of `changeTubes`: tube `n` is noted if its count or state changed. -/
def noteTube (k : Kiosk) (old new : Vector Tube 6) (s : State) (n : TubeNo) : State :=
  if (old[n]).count = (new[n]).count ∧ (old[n]).state = (new[n]).state then s else tubeNote k n old[n] s

/-- A noted tube holds the note of its change; nothing else of the Cash Unit changes. -/
theorem noteTube_cash {k : Kiosk} {old new : Vector Tube 6} {s : State} {n : TubeNo} (h : (s.cash k).tubes[n] = new[n]) (j : Kiosk) :
    (noteTube k old new s n).cash j =
      (s.updCash k (fun c => { c with tubes := c.tubes.set n (noteChange old[n] new[n]) })).cash j := by
  unfold noteTube noteChange
  split
  · rw [State.updCash_eq_self]
    rw [← h]
    simp
  · rw [tubeNote_cash, h]

@[simp] theorem noteTube_sess (k : Kiosk) (old new : Vector Tube 6) (s : State) (n : TubeNo) (j : Kiosk) :
    (noteTube k old new s n).sess j = s.sess j := by
  unfold noteTube; split <;> simp

/-- Tubes noted one by one: those of the list hold the note of their change, the others stay. -/
theorem foldl_noteTube_cash {k : Kiosk} {old new : Vector Tube 6} {l : List TubeNo} (hl : l.Nodup) {s : State}
    (h : ∀ n ∈ l, (s.cash k).tubes[n] = new[n]) :
    ∃ v : Vector Tube 6, (l.foldl (noteTube k old new) s).cash k = { s.cash k with tubes := v } ∧
      ∀ n : TubeNo, v[n] = if n ∈ l then noteChange old[n] new[n] else (s.cash k).tubes[n] := by
  induction l generalizing s with
  | nil => exact ⟨(s.cash k).tubes, rfl, fun n => by simp⟩
  | cons n l ih =>
    obtain ⟨hn, hl⟩ := List.nodup_cons.mp hl
    have hs := noteTube_cash (old := old) (h n List.mem_cons_self)
    have hne : ∀ m : TubeNo, m ≠ n → ((noteTube k old new s n).cash k).tubes[m] = (s.cash k).tubes[m] := by
      intro m hm
      have hv : n.val ≠ m.val := fun e => hm (Fin.ext e.symm)
      simp [hs, hv]
    obtain ⟨v, hc, hv⟩ := ih hl (s := noteTube k old new s n) fun m hm => by
      rw [hne m fun e => hn (e ▸ hm), h m (List.mem_cons_of_mem _ hm)]
    refine ⟨v, by simp [hc, hs], fun m => ?_⟩
    rw [hv]
    by_cases hm : m = n
    · subst hm
      simp [hn, hs]
    · simp [hm, hne m hm]

theorem nodup_allTubes : allTubes.Nodup := by decide

/-- A change of tubes is the new vector with each tube then noted in turn (R47). -/
theorem changeTubes_eq_foldl (k : Kiosk) (f : TubeNo → Tube → Tube) (s : State) :
    changeTubes k f s = allTubes.foldl (noteTube k (s.cash k).tubes (mapTubes f (s.cash k).tubes))
      (s.updCash k (fun c => { c with tubes := mapTubes f c.tubes })) := by
  simp only [changeTubes, State.cash_updCash_same]
  rfl

/-- Tubes changed together hold the note of their change, and nothing else of the Cash Unit changes (R47). -/
theorem changeTubes_cash (k : Kiosk) (f : TubeNo → Tube → Tube) (s : State) :
    ∃ v : Vector Tube 6, (changeTubes k f s).cash k = { s.cash k with tubes := v } ∧
      ∀ n : TubeNo, v[n] = noteChange (s.cash k).tubes[n] (f n (s.cash k).tubes[n]) := by
  obtain ⟨v, hc, hv⟩ := foldl_noteTube_cash (k := k) (old := (s.cash k).tubes) (new := mapTubes f (s.cash k).tubes) nodup_allTubes
    (s := s.updCash k (fun c => { c with tubes := mapTubes f c.tubes })) (fun n _ => by rw [State.cash_updCash_same])
  refine ⟨v, by simpa [changeTubes_eq_foldl] using hc, fun n => ?_⟩
  rw [hv, if_pos (mem_allTubes n), getElem_mapTubes]

/-- A tube changed holds the note of its change (R47). -/
theorem getElem_changeTubes (k : Kiosk) (f : TubeNo → Tube → Tube) (s : State) (n : TubeNo) :
    ((changeTubes k f s).cash k).tubes[n] = noteChange (s.cash k).tubes[n] (f n (s.cash k).tubes[n]) := by
  obtain ⟨v, hc, hv⟩ := changeTubes_cash k f s
  rw [hc]
  exact hv n

@[simp] theorem changeTubes_escrow (k : Kiosk) (f : TubeNo → Tube → Tube) (s : State) :
    ((changeTubes k f s).cash k).escrow = (s.cash k).escrow := by
  obtain ⟨v, hc, -⟩ := changeTubes_cash k f s
  rw [hc]

@[simp] theorem changeTubes_sess (k : Kiosk) (f : TubeNo → Tube → Tube) (s : State) (j : Kiosk) :
    (changeTubes k f s).sess j = s.sess j := by
  rw [changeTubes_eq_foldl, foldl_keeps (fun n t => noteTube k _ _ t n) (fun t => t.sess j) (fun _ _ => by simp), State.sess_updCash]

/-! ### FILL (R46) -/

/-- A FILL from the kiosk that its loop polls is applied, and the next poll goes out (R4, R46). -/
theorem exec_fill {s : State} {l : LoopId} {k : Kiosk} {counts : Vector Nat 6} (h : s.polls l k)
    (hc : ∀ n : TubeNo, counts[n] ≤ 250) (a : Bool) :
    exec (.fill l a counts) s = .next (nextPoll l (applyFill k counts (s.acked l a))) := by
  show Host.Outcome.next (goodReply l a (deliverIf (countsWellFormed counts) fun k => applyFill k counts) s) = _
  rw [goodReply_of_polls h, deliverIf, if_pos (countsWellFormed_of_le hc)]

/-- A FILL of an IDLE kiosk: its tubes change together, the cashbox count is 0, and SERVICE_FILL is raised (R46). -/
theorem applyFill_idle {k : Kiosk} {s : State} (h : (s.sess k).state = .idle) (counts : Vector Nat 6) :
    applyFill k counts s = raise .serviceFill (some k) ((changeTubes k (fun n t =>
      if t.coinType = none then t else { t with count := min counts[n] t.capacity, state := .payable }) s).updCash k
        (fun c => { c with cashboxCount := 0 })) := if_pos h

/-- Settles O23: the tubes are those of `changeTubes`, and outside IDLE nothing is applied. -/
theorem fillAdoptsCounts : Obligations.FillAdoptsCounts := by
  intro l a k counts s hp hc u
  have hexec : exec (.fill l a counts) s = .next (nextPoll l (applyFill k counts u)) := exec_fill hp hc a
  clear_value u
  refine ⟨fun hidle => ⟨_, hexec, ?_⟩, fun hbusy => ?_⟩
  · rw [applyFill_idle hidle]
    refine ⟨fun n => ⟨fun hnone => ?_, fun hused => ?_⟩, ?_, ?_, (events_raise_self _ _ _).1, (events_raise_self _ _ _).2, ?_⟩
    · simp only [cash_raise, State.cash_updCash_same, getElem_changeTubes, if_pos hnone, noteChange_self]
    · simp only [cash_raise, State.cash_updCash_same, getElem_changeTubes, if_neg hused, noteChange_count, noteChange_state,
        noteChange_coinType, noteChange_capacity, and_self]
    · simp
    · simp
    · simp
  · rw [hexec, applyFill, if_neg hbusy]

/-! ### Changes of one kiosk's inlet (section 3.4) -/

@[simp] theorem State.inlet_updInlet (s : State) (k : Kiosk) (f : Inlet → Inlet) :
    ((s.updInlet k f).cash k).inlet = f (s.cash k).inlet := by simp [State.updInlet]
@[simp] theorem State.tubes_updInlet (s : State) (k : Kiosk) (f : Inlet → Inlet) :
    ((s.updInlet k f).cash k).tubes = (s.cash k).tubes := by simp [State.updInlet]
@[simp] theorem State.order_updInlet (s : State) (k : Kiosk) (f : Inlet → Inlet) :
    ((s.updInlet k f).cash k).order = (s.cash k).order := by simp [State.updInlet]
@[simp] theorem State.sess_updInlet (s : State) (k : Kiosk) (f : Inlet → Inlet) (j : Kiosk) :
    (s.updInlet k f).sess j = s.sess j := by simp [State.updInlet]
@[simp] theorem State.link_updInlet (s : State) (k : Kiosk) (f : Inlet → Inlet) (j : Kiosk) :
    (s.updInlet k f).link j = s.link j := by simp [State.updInlet]
@[simp] theorem State.svc_updInlet (s : State) (k : Kiosk) (f : Inlet → Inlet) (j : Kiosk) :
    (s.updInlet k f).svc j = s.svc j := by simp [State.updInlet]

/-- Two changes of an inlet that agree on what it holds are one. -/
theorem State.updInlet_congr {s : State} {k : Kiosk} {f g : Inlet → Inlet} (h : f (s.cash k).inlet = g (s.cash k).inlet) :
    s.updInlet k f = s.updInlet k g := State.updCash_congr (by rw [h])

/-- A change that leaves the inlet as it is changes nothing. -/
theorem State.updInlet_eq_self {s : State} {k : Kiosk} {f : Inlet → Inlet} (h : f (s.cash k).inlet = (s.cash k).inlet) :
    s.updInlet k f = s := State.updCash_eq_self (by rw [h])

@[simp] theorem State.updInlet_updInlet (s : State) (k : Kiosk) (f g : Inlet → Inlet) :
    (s.updInlet k f).updInlet k g = s.updInlet k (fun i => g (f i)) := State.updCash_updCash s k _ _

/-! ### The INLET command (R13, R53) -/

/-- A kiosk is told an inlet state: its held INLET or an INLET in its queue carries it (R13). -/
def KLink.told (l : KLink) (i : InletState) : Prop := l.heldInlet = some i ∨ ∃ q ∈ l.queue, q.cmd = .inlet i

/-- An INLET offered to a PRESENT kiosk joins, replaces the unsent one, or is held behind the sent one (R13). -/
theorem KLink.offer_inlet_told {l : KLink} (h : l.state = .present) (i : InletState) : (l.offer (.inlet i)).1.told i := by
  simp only [KLink.offer, if_pos h, KLink.offerHeld, Cmd.kind]
  cases hs : l.sentOf .inlet with
  | none => exact .inr ⟨_, List.mem_append_right _ List.mem_cons_self, rfl⟩
  | some sent =>
    cases sent with
    | true => exact .inl rfl
    | false =>
      obtain ⟨x, hx, -⟩ := Option.map_eq_some_iff.mp hs
      have hkind : x.cmd.kind = .inlet := by simpa using List.find?_some hx
      exact .inr ⟨_, List.mem_map_of_mem (List.mem_of_find?_eq_some hx), congrArg QCmd.cmd (if_pos hkind)⟩

@[simp] theorem offerInlet_cash (k : Kiosk) (s : State) (j : Kiosk) : (offerInlet k s).cash j = s.cash j := by simp [offerInlet]
@[simp] theorem offerInlet_sess (k : Kiosk) (s : State) (j : Kiosk) : (offerInlet k s).sess j = s.sess j := by simp [offerInlet]
@[simp] theorem offerInlet_svc (k : Kiosk) (s : State) (j : Kiosk) : (offerInlet k s).svc j = s.svc j := by simp [offerInlet]

/-- The INLET offered carries the inlet state as it stands (R53). -/
theorem offerInlet_told {k : Kiosk} {s : State} (h : (s.link k).state = .present) :
    ((offerInlet k s).link k).told (s.cash k).inlet.state := by
  rw [offerInlet, offer_link_same]
  exact KLink.offer_inlet_told h _

/-! ### Blocking and reopening (R49–R52) -/

/-- BLOCK of an OPEN inlet: blocked with cause SERVER, told to the kiosk, and INLET_BLOCKED raised (R49, R51). -/
theorem inletBlock_opened {k : Kiosk} {s : State} (hs : (s.cash k).inlet.server = false) (ho : (s.cash k).inlet.state = .opened) :
    inletBlock k s = raise .inletBlocked (some k) (offerInlet k (s.updInlet k (fun i => { i with state := .blocked, server := true }))) := by
  simp [inletBlock, hs, addCause, ho]

/-- BLOCK of a BLOCKED inlet adds the cause alone, and ends a wait to reopen (R49). -/
theorem inletBlock_blocked {k : Kiosk} {s : State} (hs : (s.cash k).inlet.server = false) (hb : (s.cash k).inlet.state = .blocked) :
    inletBlock k s = s.updInlet k (fun i => { i with server := true, reopenWaiting := false }) := by
  simp [inletBlock, hs, addCause, hb]

/-- BLOCK repeated changes nothing (R51). -/
theorem inletBlock_repeated {k : Kiosk} {s : State} (hs : (s.cash k).inlet.server = true) : inletBlock k s = s := by
  simp [inletBlock, hs]

@[simp] theorem reopen_inlet (k : Kiosk) (s : State) :
    ((reopen k s).cash k).inlet = { (s.cash k).inlet with state := .opened, reopenWaiting := false } := by simp [reopen]
@[simp] theorem reopen_tubes (k : Kiosk) (s : State) : ((reopen k s).cash k).tubes = (s.cash k).tubes := by simp [reopen]
@[simp] theorem reopen_order (k : Kiosk) (s : State) : ((reopen k s).cash k).order = (s.cash k).order := by simp [reopen]
@[simp] theorem reopen_sess (k : Kiosk) (s : State) (j : Kiosk) : (reopen k s).sess j = s.sess j := by simp [reopen]
@[simp] theorem reopen_svc (k : Kiosk) (s : State) (j : Kiosk) : (reopen k s).svc j = s.svc j := by simp [reopen]

/-- A reopening raises INLET_RELEASED for its kiosk (R52). -/
theorem reopen_raises (k : Kiosk) (s : State) :
    ((reopen k s).depot.events[EventKind.inletReleased.no]).on = true ∧
      k ∈ ((reopen k s).depot.events[EventKind.inletReleased.no]).kiosks := events_raise_self _ _ _

/-- A reopening tells a PRESENT kiosk that its inlet is OPEN (R52, R53). -/
theorem reopen_told {k : Kiosk} {s : State} (h : (s.link k).state = .present) : ((reopen k s).link k).told .opened := by
  have ht := offerInlet_told (k := k) (s := s.updInlet k (fun i => { i with state := .opened, reopenWaiting := false })) (by simpa using h)
  simpa [reopen] using ht

/-- An inlet with the causes of another (R50, R51). -/
def Inlet.withCausesOf (x i : Inlet) : Inlet :=
  { x with cashboxFull := i.cashboxFull, rejectRun := i.rejectRun, server := i.server,
           runSession := if i.rejectRun then x.runSession else none }

/-- Causes that are those already set change nothing (R50, R51). -/
theorem removeCauses_same {k : Kiosk} {i : Inlet} {s : State} (h : (s.cash k).inlet.causeSet = i.causeSet) :
    removeCauses k i s = s := by
  simp [removeCauses, h]

/-- The last cause of a BLOCKED inlet leaves while the session is IDLE: the inlet reopens (R52). -/
theorem removeCauses_reopens {k : Kiosk} {i : Inlet} {s : State} (h : (s.cash k).inlet.causeSet ≠ i.causeSet)
    (hn : i.noCause = true) (hb : (s.cash k).inlet.state = .blocked) (hidle : (s.sess k).state = .idle) :
    removeCauses k i s = reopen k (s.updInlet k (fun x => x.withCausesOf i)) := by
  simp [removeCauses, h, hn, hb, hidle, Inlet.withCausesOf]

/-- The last cause of a BLOCKED inlet leaves while a session runs: the inlet waits to reopen (R52). -/
theorem removeCauses_waits {k : Kiosk} {i : Inlet} {s : State} (h : (s.cash k).inlet.causeSet ≠ i.causeSet)
    (hn : i.noCause = true) (hb : (s.cash k).inlet.state = .blocked) (hbusy : (s.sess k).state ≠ .idle) :
    removeCauses k i s = s.updInlet k (fun x => { x.withCausesOf i with reopenWaiting := true }) := by
  simp [removeCauses, h, hn, hb, hbusy, Inlet.withCausesOf]

/-- The cause set is empty exactly when the inlet has no cause. -/
theorem Inlet.noCause_iff {i : Inlet} : i.noCause = true ↔ i.causeSet = (false, false, false) := by
  simp [Inlet.noCause, Inlet.causeSet, and_assoc]

/-! ### KIOSK-CONTROL (R182) -/

/-- The two bytes of an answered KIOSK-CONTROL: service state and inlet state (R182). -/
theorem controlBytes (b : Bool) (i : InletState) :
    flagByte b ++ byte1 i.code = [if b then 1#8 else 0#8, if i = .opened then 0#8 else 1#8] := by
  cases b <;> cases i <;> decide

section
variable {kiosk : Byte} {k : Kiosk} {s : State} {refused : Kiosk → State → Bool}

/-- A KIOSK-CONTROL that its owner refuses is answered CAUSE_ACTIVE and changes nothing (R51, R182). -/
theorem kioskControl_refused (hs : s.hears) (hk : kiosk.toNat = k.val) (hu : (s.link k).state ≠ .unused)
    (hr : refused k (frameForStation s) = true) (act : Kiosk → State → State) :
    depotRequest 0x50 (kioskControl kiosk refused act) s = (frameForStation s).withReply 0x50 .causeActive [] := by
  have h : kioskControl kiosk refused act (frameForStation s) = (frameForStation s, { status := .causeActive, data := [] }) := by
    simp [kioskControl, kioskOf, finOf_eq hk, hu, hr, refuse]
  rw [depotRequest_heard hs, h]

/-- A KIOSK-CONTROL that is taken, its action leaving `w` and the service causes: answered OK with both states (R182). -/
theorem kioskControl_taken (hs : s.hears) (hk : kiosk.toNat = k.val) (hu : (s.link k).state ≠ .unused)
    (hr : refused k (frameForStation s) = false) {act : Kiosk → State → State} {w : State} (hw : act k (frameForStation s) = w)
    (hsvc : w.svc k = s.svc k) {i : InletState} (hi : (w.cash k).inlet.state = i) :
    depotRequest 0x50 (kioskControl kiosk refused act) s =
      w.withReply 0x50 .ok [if (s.svc k).out then 1#8 else 0#8, if i = .opened then 0#8 else 1#8] := by
  have h : kioskControl kiosk refused act (frameForStation s) =
      (w, { status := .ok, data := flagByte (w.svc k).out ++ byte1 (w.cash k).inlet.state.code }) := by
    simp [kioskControl, kioskOf, finOf_eq hk, hu, hr, hw]
  rw [depotRequest_heard hs, h, controlBytes, hsvc, hi]

end

/-! ### BLOCK and RELEASE (R51) -/

/-- RELEASE is refused while the cashbox is FULL or its session runs, for the cause that stands (R51). -/
theorem releaseRefused_iff {k : Kiosk} {s : State} :
    releaseRefused k s = true ↔
      ((s.cash k).inlet.cashboxFull = true ∧ (s.link k).cashbox.value = .full) ∨
        ((s.cash k).inlet.rejectRun = true ∧ (s.sess k).state ≠ .idle) := by
  simp [releaseRefused]

/-- RELEASE is taken where the cashbox is OK under CASHBOX_FULL and the session IDLE under REJECT_RUN (R51). -/
theorem releaseRefused_eq_false {k : Kiosk} {s : State} (hf : (s.cash k).inlet.cashboxFull = true → (s.link k).cashbox.value = .ok)
    (hr : (s.cash k).inlet.rejectRun = true → (s.sess k).state = .idle) : releaseRefused k s = false := by
  rw [Bool.eq_false_iff, ne_eq, releaseRefused_iff]
  rintro (⟨h, hfull⟩ | ⟨h, hbusy⟩)
  · simp [hf h] at hfull
  · exact hbusy (hr h)

/-- An inlet without a cause has none of the three (Table 3-3). -/
theorem Inlet.causes_of_noCause {i : Inlet} (h : i.noCause = true) :
    i.cashboxFull = false ∧ i.rejectRun = false ∧ i.server = false := by
  simpa [Inlet.causeSet] using Inlet.noCause_iff.mp h

/-- RELEASE of an inlet without a cause changes nothing (R51). -/
theorem inletRelease_noCause {k : Kiosk} {s : State} (h : (s.cash k).inlet.noCause = true) : inletRelease k s = s :=
  removeCauses_same (Inlet.noCause_iff.mp h)

/-- The inlet causes that a RELEASE leaves: none (R51). -/
def Inlet.released (x : Inlet) : Inlet := { x with cashboxFull := false, rejectRun := false, server := false, runSession := none }

section
variable {k : Kiosk} {s : State} (hc : (s.cash k).inlet.noCause = false) (hb : (s.cash k).inlet.state = .blocked)
include hc hb

/-- RELEASE of a BLOCKED inlet while the session is IDLE reopens it (R51, R52). -/
theorem inletRelease_idle (hidle : (s.sess k).state = .idle) :
    inletRelease k s = reopen k (s.updInlet k Inlet.released) :=
  removeCauses_reopens (fun h => by simp [Inlet.noCause_iff.mpr h] at hc) rfl hb hidle

/-- RELEASE of a BLOCKED inlet while a session runs leaves it to reopen at the session's end (R51, R52). -/
theorem inletRelease_busy (hbusy : (s.sess k).state ≠ .idle) :
    inletRelease k s = s.updInlet k (fun x => { x.released with reopenWaiting := true }) :=
  removeCauses_waits (fun h => by simp [Inlet.noCause_iff.mpr h] at hc) rfl hb hbusy

end

section
variable {kiosk : Byte} {k : Kiosk} {s : State} (hs : s.hears) (hk : kiosk.toNat = k.val) (hu : (s.link k).state ≠ .unused)
include hs hk hu

/-- BLOCK is never refused: its answer carries the states that its action leaves (R51, R182). -/
theorem exec_block {w : State} (hw : inletBlock k (frameForStation s) = w) (hsvc : w.svc k = s.svc k) {i : InletState}
    (hi : (w.cash k).inlet.state = i) :
    exec (.kioskControlBlock kiosk) s =
      .next (w.withReply 0x50 .ok [if (s.svc k).out then 1#8 else 0#8, if i = .opened then 0#8 else 1#8]) :=
  congrArg Host.Outcome.next (kioskControl_taken (refused := never) hs hk hu rfl hw hsvc hi)

/-- RELEASE refused (R51). -/
theorem exec_release_refused (hr : releaseRefused k (frameForStation s) = true) :
    exec (.kioskControlRelease kiosk) s = .next ((frameForStation s).withReply 0x50 .causeActive []) :=
  congrArg Host.Outcome.next (kioskControl_refused hs hk hu hr inletRelease)

/-- RELEASE taken (R51, R182). -/
theorem exec_release {w : State} (hr : releaseRefused k (frameForStation s) = false) (hw : inletRelease k (frameForStation s) = w)
    (hsvc : w.svc k = s.svc k) {i : InletState} (hi : (w.cash k).inlet.state = i) :
    exec (.kioskControlRelease kiosk) s =
      .next (w.withReply 0x50 .ok [if (s.svc k).out then 1#8 else 0#8, if i = .opened then 0#8 else 1#8]) :=
  congrArg Host.Outcome.next (kioskControl_taken hs hk hu hr hw hsvc hi)

/-- MODE LATCHED is never refused (R50, R182). -/
theorem exec_modeLatched {w : State} (hw : inletMode k .latched (frameForStation s) = w) (hsvc : w.svc k = s.svc k) {i : InletState}
    (hi : (w.cash k).inlet.state = i) :
    exec (.kioskControlModeLatched kiosk) s =
      .next (w.withReply 0x50 .ok [if (s.svc k).out then 1#8 else 0#8, if i = .opened then 0#8 else 1#8]) :=
  congrArg Host.Outcome.next (kioskControl_taken (refused := never) (act := fun k => inletMode k .latched) hs hk hu rfl hw hsvc hi)

/-- MODE FOLLOWING is never refused (R50, R182). -/
theorem exec_modeFollowing {w : State} (hw : inletMode k .following (frameForStation s) = w) (hsvc : w.svc k = s.svc k)
    {i : InletState} (hi : (w.cash k).inlet.state = i) :
    exec (.kioskControlModeFollowing kiosk) s =
      .next (w.withReply 0x50 .ok [if (s.svc k).out then 1#8 else 0#8, if i = .opened then 0#8 else 1#8]) :=
  congrArg Host.Outcome.next (kioskControl_taken (refused := never) (act := fun k => inletMode k .following) hs hk hu rfl hw hsvc hi)

end

/-! ### MODE (R50) -/

/-- MODE LATCHED changes the mode alone, and nothing where LATCHED is the mode (R50). -/
theorem inletMode_latched (k : Kiosk) (s : State) : inletMode k .latched s = s.updInlet k (fun i => { i with mode := .latched }) := by
  by_cases h : (s.cash k).inlet.mode = .latched
  · rw [State.updInlet_eq_self (by rw [← h])]
    exact if_pos h
  · exact if_neg h

/-- MODE FOLLOWING where it is the mode changes nothing (R50). -/
theorem inletMode_following_same {k : Kiosk} {s : State} (h : (s.cash k).inlet.mode = .following) : inletMode k .following s = s :=
  if_pos h

/-- MODE FOLLOWING of an inlet without a cause changes the mode alone (R50). -/
theorem inletMode_following_noCause {k : Kiosk} {s : State} (hm : (s.cash k).inlet.mode = .latched)
    (h : (s.cash k).inlet.noCause = true) :
    inletMode k .following s = s.updInlet k (fun i => { i with mode := .following }) := by
  obtain ⟨hf, hr, hv⟩ := Inlet.causes_of_noCause h
  rw [inletMode, if_neg (by simp [hm])]
  exact removeCauses_same (by simp [Inlet.causeSet, hf, hr, hv])

/-- MODE FOLLOWING drops CASHBOX_FULL where the filtered input is OK; where it was the last cause of a BLOCKED inlet and
the session is IDLE, the inlet reopens (R50, R52). -/
theorem inletMode_following_reopens {k : Kiosk} {s : State} (hm : (s.cash k).inlet.mode = .latched)
    (hf : (s.cash k).inlet.cashboxFull = true) (hr : (s.cash k).inlet.rejectRun = false) (hv : (s.cash k).inlet.server = false)
    (hb : (s.cash k).inlet.state = .blocked) (hok : (s.link k).cashbox.value = .ok) (hidle : (s.sess k).state = .idle) :
    inletMode k .following s =
      reopen k (s.updInlet k (fun x => { x with mode := .following, cashboxFull := false, runSession := none })) := by
  rw [inletMode, if_neg (by simp [hm])]
  refine (removeCauses_reopens ?_ ?_ (by simpa using hb) (by simpa using hidle)).trans ?_
  · simp [Inlet.causeSet, hf, hok]
  · simp [Inlet.noCause, hr, hv, hok]
  · rw [State.updInlet_updInlet]
    exact congrArg (reopen k) (State.updInlet_congr (by simp [Inlet.withCausesOf, hf, hr, hv, hok]))

/-! ### The inlet under the server's control (O25) -/

section
variable {kiosk : Byte} {k : Kiosk} {s : State} (hs : s.hears) (hk : kiosk.toNat = k.val) (hu : (s.link k).state ≠ .unused)
include hs hk hu

/-- BLOCK of an OPEN inlet, as the server sees it (R49, R51, R53, R182). -/
theorem exec_block_opened (hv : (s.cash k).inlet.server = false) (ho : (s.cash k).inlet.state = .opened) :
    ∃ t, exec (.kioskControlBlock kiosk) s = .next t ∧
      (t.cash k).inlet = { (s.cash k).inlet with state := .blocked, server := true } ∧
      (t.depot.events[EventKind.inletBlocked.no]).on = true ∧ k ∈ (t.depot.events[EventKind.inletBlocked.no]).kiosks ∧
      t.depot.reply = some (replyFrame 0x50 { status := .ok, data := [if (s.svc k).out then 1#8 else 0#8, 1#8] } t) ∧
      ((s.link k).state = .present → (t.link k).told .blocked) ∧ (t.cash k).tubes = (s.cash k).tubes ∧ t.sess k = s.sess k := by
  have hw := inletBlock_opened (k := k) (s := frameForStation s) (by simpa using hv) (by simpa using ho)
  refine ⟨_, exec_block hs hk hu hw (by simp) (i := .blocked) (by simp), ?_, ?_, ?_, withReply_reply _ _ _ _, fun hp => ?_, ?_, ?_⟩
  · simp
  · simp only [withReply_depot, events_raise_self]
  · simp only [withReply_depot, events_raise_self]
  · simpa using offerInlet_told (k := k)
      (s := (frameForStation s).updInlet k (fun i => { i with state := .blocked, server := true })) (by simpa using hp)
  · simp
  · simp

/-- RELEASE of a BLOCKED inlet while the session is IDLE, as the server sees it (R51, R52, R53, R182). -/
theorem exec_release_idle (hr : releaseRefused k (frameForStation s) = false) (hc : (s.cash k).inlet.noCause = false)
    (hb : (s.cash k).inlet.state = .blocked) (hidle : (s.sess k).state = .idle) :
    ∃ t, exec (.kioskControlRelease kiosk) s = .next t ∧ (t.cash k).inlet.noCause = true ∧
      (t.cash k).inlet.state = .opened ∧ (t.cash k).inlet.reopenWaiting = false ∧
      (t.cash k).inlet.mode = (s.cash k).inlet.mode ∧
      (t.depot.events[EventKind.inletReleased.no]).on = true ∧ k ∈ (t.depot.events[EventKind.inletReleased.no]).kiosks ∧
      t.depot.reply = some (replyFrame 0x50 { status := .ok, data := [if (s.svc k).out then 1#8 else 0#8, 0#8] } t) ∧
      ((s.link k).state = .present → (t.link k).told .opened) ∧ t.sess k = s.sess k := by
  have hw := inletRelease_idle (k := k) (s := frameForStation s) (by simpa using hc) (by simpa using hb) (by simpa using hidle)
  refine ⟨_, exec_release hs hk hu hr hw (by simp) (i := .opened) (by simp), ?_, ?_, ?_, ?_, ?_, ?_,
    withReply_reply _ _ _ _, fun hp => ?_, ?_⟩
  · simp [Inlet.released, Inlet.noCause]
  · simp
  · simp
  · simp [Inlet.released]
  · simp only [withReply_depot, reopen_raises]
  · simp only [withReply_depot, reopen_raises]
  · simpa using reopen_told (k := k) (s := (frameForStation s).updInlet k Inlet.released) (by simpa using hp)
  · simp

/-- MODE FOLLOWING that drops the last cause of a BLOCKED inlet, as the server sees it (R50, R52). -/
theorem exec_modeFollowing_reopens (hm : (s.cash k).inlet.mode = .latched)
    (hf : (s.cash k).inlet.cashboxFull = true) (hr : (s.cash k).inlet.rejectRun = false) (hv : (s.cash k).inlet.server = false)
    (hb : (s.cash k).inlet.state = .blocked) (hok : (s.link k).cashbox.value = .ok) (hidle : (s.sess k).state = .idle) :
    ∃ t, exec (.kioskControlModeFollowing kiosk) s = .next t ∧
      (t.cash k).inlet.mode = .following ∧ (t.cash k).inlet.state = .opened ∧ (t.cash k).inlet.noCause = true ∧
      (t.depot.events[EventKind.inletReleased.no]).on = true ∧ t.sess k = s.sess k := by
  have hw := inletMode_following_reopens (k := k) (s := frameForStation s) (by simpa using hm) (by simpa using hf)
    (by simpa using hr) (by simpa using hv) (by simpa using hb) (by simpa using hok) (by simpa using hidle)
  refine ⟨_, exec_modeFollowing hs hk hu hw (by simp) (i := .opened) (by simp), ?_, ?_, ?_, ?_, ?_⟩
  · simp
  · simp
  · simp [Inlet.noCause, hr, hv]
  · simp only [withReply_depot, reopen_raises]
  · simp

end

/-- Settles O25, action by action: what BLOCK, RELEASE and MODE make of the inlet, behind one answered request. -/
theorem inletControlledByServer : Obligations.InletControlledByServer := by
  refine ⟨fun kiosk k s hs hk hu => ?_, fun kiosk k s hs hk hu => ?_⟩
  · refine ⟨fun hv ho => exec_block_opened hs hk hu hv ho, fun hv hb => ?_, fun hv => ?_, fun hf hfull => ?_,
      fun hr hbusy => ?_, fun hn => ?_, fun hc hb hok => ⟨fun hidle => ?_, fun hbusy hr => ?_⟩⟩
    · exact exec_block hs hk hu (inletBlock_blocked (by simpa using hv) (by simpa using hb)) (by simp) (by simpa using hb)
    · exact exec_block hs hk hu (inletBlock_repeated (by simpa using hv)) (by simp) (by simp)
    · exact exec_release_refused hs hk hu (releaseRefused_iff.mpr (.inl (by simp [hf, hfull])))
    · exact exec_release_refused hs hk hu (releaseRefused_iff.mpr (.inr (by simp [hr, hbusy])))
    · obtain ⟨hf, hr, -⟩ := Inlet.causes_of_noCause hn
      exact exec_release hs hk hu (releaseRefused_eq_false (by simp [hf]) (by simp [hr]))
        (inletRelease_noCause (by simpa using hn)) (by simp) (by simp)
    · exact exec_release_idle hs hk hu (releaseRefused_eq_false (by simpa using hok) (by simp [hidle])) hc hb hidle
    · refine exec_release hs hk hu (releaseRefused_eq_false (by simpa using hok) (by simp [hr])) (i := .blocked) ?_ (by simp)
        (by simpa using hb)
      rw [inletRelease_busy (by simpa using hc) (by simpa using hb) (by simpa using hbusy)]
      exact State.updInlet_congr (by simp [Inlet.released, hr])
  · refine ⟨?_, fun hm => ?_, fun hm hf hr hv hb hok hidle => ?_, fun hm hn => ?_⟩
    · exact exec_modeLatched hs hk hu (inletMode_latched k _) (by simp) (by simp)
    · exact exec_modeFollowing hs hk hu (inletMode_following_same (by simpa using hm)) (by simp) (by simp)
    · exact exec_modeFollowing_reopens hs hk hu hm hf hr hv hb hok hidle
    · exact exec_modeFollowing hs hk hu (inletMode_following_noCause (by simpa using hm) (by simpa using hn)) (by simp) (by simp)

/-! ### What a close leaves of the payout (R93, R112) -/

/-- What a payout has settled at a kiosk: its tubes, its order, what was paid back, and whether it is outstanding. -/
def State.payoutView (s : State) (k : Kiosk) : Vector Tube 6 × Option PayOrder × Nat × Bool :=
  ((s.cash k).tubes, (s.cash k).order, (s.sess k).paidBack, (s.sess k).payoutOut)

/-- The payout's view is known by the Cash Unit and the session. -/
theorem payoutView_congr {s t : State} {k : Kiosk} (hc : t.cash k = s.cash k) (hs : t.sess k = s.sess k) :
    t.payoutView k = s.payoutView k := by
  rw [State.payoutView, State.payoutView, hc, hs]

/-! ### The Card Authoriser, the receipt and the journal at a close (R93 steps 3–5) -/

@[simp] theorem raiseLevel_cash (e : EventKind) (s : State) (j : Kiosk) : (raiseLevel e s).cash j = s.cash j := by
  unfold raiseLevel; split <;> simp
@[simp] theorem raiseLevel_sess (e : EventKind) (s : State) (j : Kiosk) : (raiseLevel e s).sess j = s.sess j := by
  unfold raiseLevel; split <;> simp

@[simp] theorem judgeFloat_cash (s : State) (j : Kiosk) : (judgeFloat s).cash j = s.cash j := by
  unfold judgeFloat
  simp only [raiseLevel_cash]
  split <;> rfl
@[simp] theorem judgeFloat_sess (s : State) (j : Kiosk) : (judgeFloat s).sess j = s.sess j := by
  unfold judgeFloat
  simp only [raiseLevel_sess]
  split <;> rfl

@[simp] theorem restoreGrant_cash (k : Kiosk) (s : State) (j : Kiosk) : (restoreGrant k s).cash j = s.cash j := by
  unfold restoreGrant; split <;> simp
@[simp] theorem restoreGrant_sess (k : Kiosk) (s : State) (j : Kiosk) : (restoreGrant k s).sess j = s.sess j := by
  unfold restoreGrant; split <;> simp
@[simp] theorem deliverGrant_cash (k : Kiosk) (s : State) (j : Kiosk) : (deliverGrant k s).cash j = s.cash j := by
  unfold deliverGrant; split <;> simp
@[simp] theorem deliverGrant_sess (k : Kiosk) (s : State) (j : Kiosk) : (deliverGrant k s).sess j = s.sess j := by
  unfold deliverGrant; split <;> simp

@[simp] theorem authoriserClose_cash (k : Kiosk) (o : SessOutcome) (d : Bool) (s : State) (j : Kiosk) :
    (authoriserClose k o d s).cash j = s.cash j := by
  unfold authoriserClose setIssued
  simp only
  split
  · rfl
  · rw [State.cash_updCard]
    split <;> split <;> simp
@[simp] theorem authoriserClose_sess (k : Kiosk) (o : SessOutcome) (d : Bool) (s : State) (j : Kiosk) :
    (authoriserClose k o d s).sess j = s.sess j := by
  unfold authoriserClose setIssued
  simp only
  split
  · rfl
  · rw [State.sess_updCard]
    split <;> split <;> simp

/-- A receipt asked for changes the receipt jobs only, by a job joined or not at all (R145, R146). -/
theorem requestReceipt_cases (k : Kiosk) (o : SessOutcome) (s : State) :
    (requestReceipt k o s).1 = s ∨ ∃ jobs, (requestReceipt k o s).1 = s.setJobs k jobs := by
  have hmake : ∀ c, (makeJob k c s).1 = s ∨ ∃ jobs, (makeJob k c s).1 = s.setJobs k jobs := by
    intro c
    unfold makeJob
    simp only
    split
    · exact .inl rfl
    · exact .inr ⟨_, rfl⟩
  unfold requestReceipt
  simp only
  split
  · exact .inl rfl
  · split
    · split
      · exact hmake _
      · exact .inl rfl
    · split
      · split
        · exact hmake _
        · exact .inl rfl
      · exact .inl rfl

@[simp] theorem requestReceipt_cash (k : Kiosk) (o : SessOutcome) (s : State) (j : Kiosk) :
    (requestReceipt k o s).1.cash j = s.cash j := by
  obtain h | ⟨jobs, h⟩ := requestReceipt_cases k o s <;> simp [h]
@[simp] theorem requestReceipt_sess (k : Kiosk) (o : SessOutcome) (s : State) (j : Kiosk) :
    (requestReceipt k o s).1.sess j = s.sess j := by
  obtain h | ⟨jobs, h⟩ := requestReceipt_cases k o s <;> simp [h]

@[simp] theorem settleRecord_cash (k : Kiosk) (o : SessOutcome) (d : Bool) (s : State) (j : Kiosk) :
    (settleRecord k o d s).cash j = s.cash j := by
  simp [settleRecord, append]
@[simp] theorem settleRecord_sess (k : Kiosk) (o : SessOutcome) (d : Bool) (s : State) (j : Kiosk) :
    (settleRecord k o d s).sess j = s.sess j := by
  simp [settleRecord, append]

/-! ### The escrow request of a close (R39) -/

@[simp] theorem payoutView_setEscrow (k : Kiosk) (l : List EscrowEntry) (s : State) :
    (setEscrow k l s).payoutView k = s.payoutView k := by
  unfold setEscrow
  simp only
  split <;> simp [State.payoutView]

@[simp] theorem payoutView_holdEscrow (k : Kiosk) (a : EscrowAction) (l : List EscrowEntry) (s : State) :
    (holdEscrow k a l s).payoutView k = s.payoutView k := by
  simp only [State.payoutView, holdEscrow, State.cash_updCash_same, State.sess_updCash]
  split <;> rfl

/-- An ESCROW offered leaves the payout as it was. -/
theorem payoutView_offerEscrow {k : Kiosk} {a : EscrowAction} {l : List EscrowEntry} {o : EscrowOrigin} {s t : State}
    {r : OfferResult} (h : offerEscrow k a l o s = (t, r)) : t.payoutView k = s.payoutView k := by
  unfold offerEscrow at h
  simp only at h
  split at h <;> cases h <;> simp [State.payoutView]

@[simp] theorem payoutView_requestEscrow (k : Kiosk) (a : EscrowAction) (s : State) :
    (requestEscrow k a s).1.payoutView k = s.payoutView k := by
  unfold requestEscrow
  simp only
  split
  · rfl
  · split
    · simp
    · split
      next h => simp [payoutView_offerEscrow h]
      next h => simp [payoutView_offerEscrow h]
      next t h =>
        have hmark : ((setEscrow k (s.cash k).escrow t).updCash k (fun c => { c with strandedMark := true })).payoutView k =
            (setEscrow k (s.cash k).escrow t).payoutView k := by simp [State.payoutView]
        simp [hmark, payoutView_offerEscrow h]

/-! ### The return to IDLE (R93 step 6) -/

@[simp] theorem payoutView_updInlet (k : Kiosk) (f : Inlet → Inlet) (s : State) :
    (s.updInlet k f).payoutView k = s.payoutView k := by simp [State.payoutView]
@[simp] theorem payoutView_reopen (k : Kiosk) (s : State) : (reopen k s).payoutView k = s.payoutView k := by
  simp [State.payoutView]
@[simp] theorem removeCauses_sess (k : Kiosk) (i : Inlet) (s : State) (j : Kiosk) : (removeCauses k i s).sess j = s.sess j := by
  unfold removeCauses
  simp only
  split
  · rfl
  · split
    · split <;> simp
    · simp
@[simp] theorem payoutView_removeCauses (k : Kiosk) (i : Inlet) (s : State) :
    (removeCauses k i s).payoutView k = s.payoutView k := by
  unfold removeCauses
  simp only
  split
  · rfl
  · split
    · split <;> simp
    · simp

@[simp] theorem sessionReturned_sess (k : Kiosk) (s : State) (j : Kiosk) : (sessionReturned k s).sess j = s.sess j := by
  unfold sessionReturned
  simp only
  split <;> split <;> simp
@[simp] theorem payoutView_sessionReturned (k : Kiosk) (s : State) : (sessionReturned k s).payoutView k = s.payoutView k := by
  unfold sessionReturned
  simp only
  split <;> split <;> simp

/-- The return to IDLE stops the timers and leaves the payout as it was settled (R93 step 6). -/
@[simp] theorem payoutView_toIdle (k : Kiosk) (m : Message) (s : State) : (toIdle k m s).payoutView k = s.payoutView k := by
  rw [toIdle, payoutView_sessionReturned]
  simp [State.payoutView, Session.stopTimers]
@[simp] theorem toIdle_tPayout (k : Kiosk) (m : Message) (s : State) : ((toIdle k m s).sess k).tPayout = none := by
  simp [toIdle, Session.stopTimers]

/-! ### The close (R92, R93) -/

/-- A close leaves the payout as it was settled (R93). -/
@[simp] theorem payoutView_closeSession (k : Kiosk) (s : State) : (closeSession k s).payoutView k = s.payoutView k := by
  have hfigures : ∀ o, (s.updSess k (fun x => x.closed o)).payoutView k = s.payoutView k := fun o => by
    simp [State.payoutView, Session.closed]
  have hvoucher : ∀ t : State, (raise .voucherIssued (some k) t).payoutView k = t.payoutView k := fun t =>
    payoutView_congr rfl rfl
  unfold closeSession
  simp only [payoutView_toIdle]
  rw [payoutView_congr (settleRecord_cash _ _ _ _ _) (settleRecord_sess _ _ _ _ _)]
  split <;> split <;> simp [hfigures, hvoucher]

/-- What is judged at a payout's end leaves the payout as it was settled (R92). -/
@[simp] theorem payoutView_closeIfDone (k : Kiosk) (s : State) : (closeIfDone k s).payoutView k = s.payoutView k := by
  unfold closeIfDone
  simp only
  split <;> simp

/-- A payout timer that is stopped stays so at a payout's end (R92, R93). -/
theorem closeIfDone_tPayout {k : Kiosk} {s : State} (h : (s.sess k).tPayout = none) : ((closeIfDone k s).sess k).tPayout = none := by
  unfold closeIfDone
  simp only
  split
  · simp [closeSession]
  · exact h

/-- What stands at a payout's end stands after a close that it brings. -/
theorem closeIfDone_keeps (k : Kiosk) (s : State) :
    ((closeIfDone k s).cash k).tubes = (s.cash k).tubes ∧ ((closeIfDone k s).cash k).order = (s.cash k).order ∧
      ((closeIfDone k s).sess k).paidBack = (s.sess k).paidBack ∧ ((closeIfDone k s).sess k).payoutOut = (s.sess k).payoutOut := by
  simpa [State.payoutView] using payoutView_closeIfDone k s

/-! ### The tubes of a payout order (R44, R45) -/

theorem any_entry_eq_true {l : List (TubeNo × Nat)} {n : TubeNo} : l.any (fun e => decide (e.1 = n)) = true ↔ ∃ e ∈ l, e.1 = n := by
  simp

/-- A tube not in use is left by a payout report (R44). -/
theorem dispense_unused (l : List (TubeNo × Nat)) (n : TubeNo) (c : Nat) {t : Tube} (h : t.coinType = none) : dispense l n c t = t :=
  if_pos h

/-- A tube of the order that dispensed short is empty and SUSPECT (R44). -/
theorem dispense_short {l : List (TubeNo × Nat)} {n : TubeNo} {c : Nat} {t : Tube} (h : t.coinType ≠ none)
    (hn : ∃ e ∈ l, e.1 = n) (hc : c < commanded l n) : dispense l n c t = { t with count := 0, state := .suspect } := by
  rw [dispense, if_neg h, if_pos ⟨any_entry_eq_true.mpr hn, hc⟩]

/-- Every other tube in use loses what it dispensed (R44). -/
theorem dispense_full {l : List (TubeNo × Nat)} {n : TubeNo} {c : Nat} {t : Tube} (h : t.coinType ≠ none)
    (hn : (∀ e ∈ l, e.1 ≠ n) ∨ commanded l n ≤ c) : dispense l n c t = { t with count := t.count - c } := by
  rw [dispense, if_neg h, if_neg]
  rintro ⟨ha, hc⟩
  obtain ⟨e, he, hen⟩ := any_entry_eq_true.mp ha
  obtain hn | hn := hn
  · exact hn e he hen
  · omega

/-- The report of a taken order settles its tubes and ends the order (R44). -/
theorem applyPayReport_taken {k : Kiosk} {s : State} {o : PayOrder} (ho : (s.cash k).order = some o) (ht : o.taken = true)
    (counts : Vector Nat 6) :
    applyPayReport k counts s =
      (changeTubes k (fun n t => dispense o.entries n counts[n] t) s).updCash k (fun c => { c with order := none }) := by
  simp [applyPayReport, ho, ht]

@[simp] theorem applyPayReport_sess (k : Kiosk) (counts : Vector Nat 6) (s : State) (j : Kiosk) :
    (applyPayReport k counts s).sess j = s.sess j := by
  unfold applyPayReport
  split
  · split <;> simp
  · simp

/-- An order abandoned leaves its tubes SUSPECT and ends (R45). -/
theorem abandonOrder_some {k : Kiosk} {s : State} {o : PayOrder} (ho : (s.cash k).order = some o) :
    abandonOrder k s = (changeTubes k (fun n t =>
      if o.entries.any (fun e => decide (e.1 = n)) then { t with state := .suspect } else t) s).updCash k
        (fun c => { c with order := none }) := by
  simp [abandonOrder, ho]

/-- A tube is SUSPECT in an abandoned order, keeps its state otherwise, and its count in both cases (R45). -/
theorem abandonOrder_tube {k : Kiosk} {s : State} {o : PayOrder} (ho : (s.cash k).order = some o) (n : TubeNo) :
    (((abandonOrder k s).cash k).tubes[n]).count = ((s.cash k).tubes[n]).count ∧
      ((∃ e ∈ o.entries, e.1 = n) → (((abandonOrder k s).cash k).tubes[n]).state = .suspect) ∧
      ((∀ e ∈ o.entries, e.1 ≠ n) → (((abandonOrder k s).cash k).tubes[n]).state = ((s.cash k).tubes[n]).state) := by
  rw [abandonOrder_some ho]
  simp only [State.cash_updCash_same, getElem_changeTubes, noteChange_count, noteChange_state]
  by_cases hn : ∃ e ∈ o.entries, e.1 = n
  · rw [if_pos (any_entry_eq_true.mpr hn)]
    obtain ⟨e, he, hen⟩ := hn
    exact ⟨rfl, fun _ => rfl, fun h => absurd hen (h e he)⟩
  · rw [if_neg (mt any_entry_eq_true.mp hn)]
    exact ⟨rfl, fun h => absurd h hn, fun _ => rfl⟩

@[simp] theorem abandonOrder_sess (k : Kiosk) (s : State) (j : Kiosk) : (abandonOrder k s).sess j = s.sess j := by
  unfold abandonOrder; split <;> simp

/-- A PAYREPORT from the kiosk that its loop polls is counted, and the next poll goes out (R4, R44). -/
theorem exec_payReport {s : State} {l : LoopId} {k : Kiosk} {counts : Vector Nat 6} (h : s.polls l k)
    (hc : ∀ n : TubeNo, counts[n] ≤ 250) (a : Bool) :
    exec (.payReport l a counts) s = .next (nextPoll l (payReportFrame k counts (s.acked l a))) := by
  show Host.Outcome.next (goodReply l a (deliverIf (countsWellFormed counts) fun k => payReportFrame k counts) s) = _
  rw [goodReply_of_polls h, deliverIf, if_pos (countsWellFormed_of_le hc)]

section
variable {k : Kiosk} {s : State} {o : PayOrder} (hst : (s.sess k).state = .dispensing) (hout : (s.sess k).payoutOut = true)
  (htaken : (s.sess k).payTaken = true) (ho : (s.cash k).order = some o) (hot : o.taken = true) (counts : Vector Nat 6)
include hst hout htaken ho hot

/-- The report of the session's own taken PAY: the order settled, the value paid back, the payout ended; then the close is
judged (R44, R92, R110, R111). -/
theorem payReportFrame_counted :
    ∃ t, payReportFrame k counts s = closeIfDone k t ∧
      (t.sess k).paidBack = (s.sess k).paidBack + reportValue (s.sess k).payout counts ∧ (t.sess k).payoutOut = false ∧
      (t.sess k).tPayout = none ∧ (t.cash k).order = none ∧
      ∀ n : TubeNo, (t.cash k).tubes[n] =
        noteChange (s.cash k).tubes[n] (dispense o.entries n counts[n] (s.cash k).tubes[n]) := by
  have hcount : payReportFrame k counts s = closeIfDone k ((applyPayReport k counts s).updSess k (fun x =>
      { x with paidBack := x.paidBack + reportValue x.payout counts, payoutOut := false, tPayout := none })) := by
    simp only [payReportFrame, applyPayReport_sess, hst, hout, htaken, and_self, if_true]
  refine ⟨_, hcount, by simp, by simp, by simp, by simp [applyPayReport_taken ho hot], fun n => ?_⟩
  rw [State.cash_updSess, applyPayReport_taken ho hot, State.cash_updCash_same]
  exact getElem_changeTubes k _ s n

/-- A counted report, as it stands after a close that it brings: the value paid back, the payout and its order ended, and
each tube as it dispensed (R44, R110, R111). -/
theorem payReportFrame_settles {w : State} (hw : payReportFrame k counts s = w) :
    (w.sess k).paidBack = (s.sess k).paidBack + reportValue (s.sess k).payout counts ∧ (w.sess k).payoutOut = false ∧
      (w.sess k).tPayout = none ∧ (w.cash k).order = none ∧
      ∀ n : TubeNo, (w.cash k).tubes[n] =
        noteChange (s.cash k).tubes[n] (dispense o.entries n counts[n] (s.cash k).tubes[n]) := by
  obtain ⟨t, ht, hpaid, hends, hstop, horder, htubes⟩ := payReportFrame_counted hst hout htaken ho hot counts
  obtain ⟨ktubes, korder, kpaid, kends⟩ := closeIfDone_keeps k t
  subst hw
  rw [ht, ktubes, korder, kpaid, kends]
  exact ⟨hpaid, hends, closeIfDone_tPayout hstop, horder, htubes⟩

end

/-- The payout timer's end, as it stands after a close that it brings: the payout ended, its order abandoned, and nothing
paid back for it (R45, R111). -/
theorem payoutExpired_settles {k : Kiosk} {s : State} {o : PayOrder} (ho : (s.cash k).order = some o) :
    ((payoutExpired k s).sess k).payoutOut = false ∧ ((payoutExpired k s).sess k).tPayout = none ∧
      ((payoutExpired k s).cash k).order = none ∧ ((payoutExpired k s).sess k).paidBack = (s.sess k).paidBack ∧
      ((payoutExpired k s).cash k).tubes = ((abandonOrder k
        (s.updSess k (fun x => { x with payoutOut := false, tPayout := none }))).cash k).tubes := by
  obtain ⟨htubes, horder, hpaid, hends⟩ := closeIfDone_keeps k
    (abandonOrder k (s.updSess k (fun x => { x with payoutOut := false, tPayout := none })))
  have ho' : ((s.updSess k (fun x => { x with payoutOut := false, tPayout := none })).cash k).order = some o := by simpa using ho
  refine ⟨hends.trans (by simp), closeIfDone_tPayout (by simp), horder.trans ?_, hpaid.trans (by simp), htubes⟩
  simp [abandonOrder_some ho']

/-- Settles O24: a close that the payout's end brings leaves what the report or the timer settled. -/
theorem payoutEndsByReportOrTimer : Obligations.PayoutEndsByReportOrTimer := by
  refine ⟨fun l a k counts o s hp hc hst hout htaken ho hot => ⟨_, exec_payReport hp hc a, ?_⟩, fun k o s hst htimer ho => ?_⟩
  · obtain ⟨hpaid, hends, hstop, horder, htubes⟩ := payReportFrame_settles hst hout htaken ho hot counts rfl
    refine ⟨hpaid, hends, hstop, horder, fun n => ⟨fun hnone => ?_, fun hused hn hshort => ?_, fun hused hn => ?_⟩⟩
    · rw [htubes, dispense_unused _ _ _ hnone, noteChange_self]
    · rw [htubes, noteChange_count, noteChange_state, dispense_short hused hn hshort]
      exact ⟨rfl, rfl⟩
    · rw [htubes, noteChange_count, noteChange_state, dispense_full hused hn]
      exact ⟨rfl, rfl⟩
  · obtain ⟨hends, hstop, horder, hpaid, htubes⟩ := payoutExpired_settles ho
    refine ⟨payoutExpired k s, congrArg Host.Outcome.next (if_pos htimer), hends, hstop, horder, hpaid, fun n => ?_⟩
    have htube := abandonOrder_tube (k := k) (s := s.updSess k (fun x => { x with payoutOut := false, tPayout := none }))
      (by simpa using ho) n
    simpa only [htubes, State.cash_updSess] using htube

end Sys2Proof.Machine
end

section
/-! SUPPORT. The banks (R54): what every operation of the part leaves of the tariff, block by block in the order of the
model, and from it that no step leaves two banks ACTIVE. -/

namespace Sys2Proof.Machine

/-- A state read out of an answer has the tariff that the answer's state has. -/
theorem tariff_of_answer {α : Type} {r : State × α} {t : State} {x : α} (h : r = (t, x)) : t.tariff = r.1.tariff := by rw [h]

/-! ### What the flags, the journal and the cards leave of the tariff

No command but a banked write, a BANK-SWITCH, a SWITCH-CANCEL and what the clock judges moves the tariff: one equation for
each operation of the model. -/

@[simp] theorem activity_tariff (k : Kiosk) (s : State) : (activity k s).tariff = s.tariff := by
  unfold activity; split <;> rfl
@[simp] theorem startInactivity_tariff (k : Kiosk) (s : State) : (startInactivity k s).tariff = s.tariff := rfl
@[simp] theorem raiseLevel_tariff (e : EventKind) (s : State) : (raiseLevel e s).tariff = s.tariff := by
  unfold raiseLevel; split <;> simp
@[simp] theorem reserve_tariff (s : State) : (reserve s).1.tariff = s.tariff := by
  simp only [reserve]; repeat' split
  all_goals simp
@[simp] theorem releaseReservation_tariff (s : State) : (releaseReservation s).tariff = s.tariff := rfl
@[simp] theorem append_tariff (k : Kiosk) (r : Record) (s : State) : (append k r s).tariff = s.tariff := rfl
@[simp] theorem popRecord_tariff (s : State) : (popRecord s).tariff = s.tariff := rfl
@[simp] theorem setStop_tariff (s : State) (l : List Nat) : (s.setStop l).tariff = s.tariff := rfl
@[simp] theorem judgeFloat_tariff (s : State) : (judgeFloat s).tariff = s.tariff := by
  simp only [judgeFloat, raiseLevel_tariff]; split <;> simp
@[simp] theorem offlineRule_tariff (k : Kiosk) (card a : Nat) (s : State) : (offlineRule k card a s).1.tariff = s.tariff := by
  unfold offlineRule; split <;> simp
@[simp] theorem restoreGrant_tariff (k : Kiosk) (s : State) : (restoreGrant k s).tariff = s.tariff := by
  unfold restoreGrant; split <;> simp
@[simp] theorem deliverGrant_tariff (k : Kiosk) (s : State) : (deliverGrant k s).tariff = s.tariff := by
  unfold deliverGrant; split <;> simp
@[simp] theorem clearOffline_tariff (s : State) : (clearOffline s).tariff = s.tariff := rfl
@[simp] theorem setFloat_tariff (f : Nat) (s : State) : (setFloat f s).tariff = s.tariff := by simp [setFloat]
@[simp] theorem conclude_tariff (k : Kiosk) (c : Conclusion) (s : State) : (conclude k c s).tariff = s.tariff := rfl
@[simp] theorem unlist_tariff (k : Kiosk) (s : State) : (unlist k s).tariff = s.tariff := rfl
@[simp] theorem withdraw_tariff (k : Kiosk) (s : State) : (withdraw k s).tariff = s.tariff := by
  unfold withdraw; split <;> simp
@[simp] theorem listRequest_tariff (e : AuthEntry) (s : State) : (listRequest e s).tariff = s.tariff := by simp [listRequest]
@[simp] theorem setIssued_tariff (k : Kiosk) (w : Option CardWrite) (s : State) : (setIssued k w s).tariff = s.tariff := rfl
@[simp] theorem authoriserClose_tariff (k : Kiosk) (o : SessOutcome) (d : Bool) (s : State) :
    (authoriserClose k o d s).tariff = s.tariff := by
  simp only [authoriserClose]; repeat' split
  all_goals simp

/-! ### What the Cash Unit leaves of the tariff -/

@[simp] theorem tubeNote_tariff (k : Kiosk) (n : TubeNo) (old : Tube) (s : State) : (tubeNote k n old s).tariff = s.tariff := by
  simp only [tubeNote, recompute_tariff]; repeat' split
  all_goals simp
@[simp] theorem changeTubes_tariff (k : Kiosk) (f : TubeNo → Tube → Tube) (s : State) :
    (changeTubes k f s).tariff = s.tariff := by
  rw [changeTubes_eq_foldl]
  refine (foldl_keeps (fun n t => noteTube k _ _ t n) (fun t => t.tariff) (fun n t => ?_) allTubes _).trans (by simp)
  unfold noteTube; split <;> simp
@[simp] theorem writeTube_tariff (k : Kiosk) (n : TubeNo) (t : Tube) (s : State) : (writeTube k n t s).tariff = s.tariff := by
  simp [writeTube]
@[simp] theorem addCashbox_tariff (k : Kiosk) (n : Nat) (s : State) : (addCashbox k n s).tariff = s.tariff := rfl
@[simp] theorem setEscrow_tariff (k : Kiosk) (l : List EscrowEntry) (s : State) : (setEscrow k l s).tariff = s.tariff := by
  simp only [setEscrow]; split <;> simp
@[simp] theorem offerEscrow_tariff (k : Kiosk) (a : EscrowAction) (l : List EscrowEntry) (o : EscrowOrigin) (s : State) :
    (offerEscrow k a l o s).1.tariff = s.tariff := by
  simp only [offerEscrow]; split <;> simp
@[simp] theorem holdEscrow_tariff (k : Kiosk) (a : EscrowAction) (l : List EscrowEntry) (s : State) :
    (holdEscrow k a l s).tariff = s.tariff := rfl
@[simp] theorem requestEscrow_tariff (k : Kiosk) (a : EscrowAction) (s : State) : (requestEscrow k a s).1.tariff = s.tariff := by
  simp only [requestEscrow]
  split
  · rfl
  · split
    · simp
    · split <;> rename_i h <;> simp [tariff_of_answer h]
@[simp] theorem offerHeldEscrow_tariff (k : Kiosk) (s : State) : (offerHeldEscrow k s).tariff = s.tariff := by
  unfold offerHeldEscrow
  split
  · rfl
  · split <;> rename_i h <;> simp [tariff_of_answer h]
@[simp] theorem escrowTaken_tariff (k : Kiosk) (s : State) : (escrowTaken k s).1.tariff = s.tariff := by
  simp only [escrowTaken]
  split
  · rfl
  · simp only [offerHeldEscrow_tariff, State.tariff_updCash]; split <;> simp
@[simp] theorem restoreEscrow_tariff (k : Kiosk) (s : State) : (restoreEscrow k s).tariff = s.tariff := by simp [restoreEscrow]
@[simp] theorem escrowNotTaken_tariff (k : Kiosk) (s : State) : (escrowNotTaken k s).1.tariff = s.tariff := by
  unfold escrowNotTaken; split <;> simp
@[simp] theorem escrowAbsence_tariff (k : Kiosk) (s : State) : (escrowAbsence k s).tariff = s.tariff := by
  unfold escrowAbsence; split <;> simp
@[simp] theorem escrowPresence_tariff (k : Kiosk) (s : State) : (escrowPresence k s).tariff = s.tariff := by
  simp only [escrowPresence]
  split
  · rfl
  · split
    · simp
    · split <;> rename_i h <;> simp [tariff_of_answer h]
@[simp] theorem escrowRestart_tariff (k : Kiosk) (s : State) : (escrowRestart k s).tariff = s.tariff := by simp [escrowRestart]
@[simp] theorem landInTube_tariff (k : Kiosk) (n : TubeNo) (t : Option CoinType) (s : State) :
    (landInTube k n t s).tariff = s.tariff := by
  unfold landInTube; repeat' split
  all_goals simp
@[simp] theorem applyLanding_tariff (k : Kiosk) (d : Dest) (t : Option CoinType) (v : Nat) (s : State) :
    (applyLanding k d t v s).tariff = s.tariff := by
  unfold applyLanding; repeat' split
  all_goals simp
@[simp] theorem registerOrder_tariff (k : Kiosk) (l : List PayEntry) (s : State) : (registerOrder k l s).tariff = s.tariff := rfl
@[simp] theorem orderTaken_tariff (k : Kiosk) (s : State) : (orderTaken k s).tariff = s.tariff := rfl
@[simp] theorem applyPayReport_tariff (k : Kiosk) (counts : Vector Nat 6) (s : State) :
    (applyPayReport k counts s).tariff = s.tariff := by
  unfold applyPayReport; repeat' split
  all_goals simp
@[simp] theorem abandonOrder_tariff (k : Kiosk) (s : State) : (abandonOrder k s).tariff = s.tariff := by
  unfold abandonOrder; split <;> simp
@[simp] theorem applyFill_tariff (k : Kiosk) (counts : Vector Nat 6) (s : State) : (applyFill k counts s).tariff = s.tariff := by
  unfold applyFill; split <;> simp

/-! ### What the coin inlet leaves of the tariff -/

@[simp] theorem updInlet_tariff (s : State) (k : Kiosk) (f : Inlet → Inlet) : (s.updInlet k f).tariff = s.tariff := rfl
@[simp] theorem offerInlet_tariff (k : Kiosk) (s : State) : (offerInlet k s).tariff = s.tariff := by simp [offerInlet]
@[simp] theorem addCause_tariff (k : Kiosk) (add : Inlet → Inlet) (s : State) : (addCause k add s).tariff = s.tariff := by
  unfold addCause; split <;> simp
@[simp] theorem reopen_tariff (k : Kiosk) (s : State) : (reopen k s).tariff = s.tariff := by simp [reopen]
@[simp] theorem removeCauses_tariff (k : Kiosk) (i : Inlet) (s : State) : (removeCauses k i s).tariff = s.tariff := by
  simp only [removeCauses]; repeat' split
  all_goals simp
@[simp] theorem cashboxChanged_tariff (k : Kiosk) (v : CashboxIn) (s : State) : (cashboxChanged k v s).tariff = s.tariff := by
  unfold cashboxChanged; repeat' split
  all_goals simp
@[simp] theorem rejectRunReached_tariff (k : Kiosk) (s : State) : (rejectRunReached k s).tariff = s.tariff := by
  simp [rejectRunReached]
@[simp] theorem sessionReturned_tariff (k : Kiosk) (s : State) : (sessionReturned k s).tariff = s.tariff := by
  simp only [sessionReturned]; repeat' split
  all_goals simp
@[simp] theorem inletBlock_tariff (k : Kiosk) (s : State) : (inletBlock k s).tariff = s.tariff := by
  unfold inletBlock; split <;> simp
@[simp] theorem inletRelease_tariff (k : Kiosk) (s : State) : (inletRelease k s).tariff = s.tariff := by simp [inletRelease]
@[simp] theorem inletMode_tariff (k : Kiosk) (m : InletMode) (s : State) : (inletMode k m s).tariff = s.tariff := by
  simp only [inletMode]; repeat' split
  all_goals simp
@[simp] theorem inletRestart_tariff (k : Kiosk) (s : State) : (inletRestart k s).tariff = s.tariff := rfl
@[simp] theorem cashPresence_tariff (k : Kiosk) (s : State) : (cashPresence k s).tariff = s.tariff := by simp [cashPresence]

/-! ### What the Coin Classifier leaves of the tariff -/

@[simp] theorem decisionNotice_tariff (k : Kiosk) (accept : Bool) (s : State) : (decisionNotice k accept s).tariff = s.tariff := by
  simp only [decisionNotice]; repeat' split
  all_goals simp
@[simp] theorem firstCoin_tariff (k : Kiosk) (r1 r2 r3 : Nat) (s : State) : (firstCoin k r1 r2 r3 s).tariff = s.tariff := by
  simp [firstCoin]
@[simp] theorem secondCoin_tariff (k : Kiosk) (s : State) : (secondCoin k s).tariff = s.tariff := by
  simp only [secondCoin, decisionNotice_tariff]; split <;> simp
@[simp] theorem coinFrame_tariff (k : Kiosk) (r1 r2 r3 : Nat) (s : State) : (coinFrame k r1 r2 r3 s).tariff = s.tariff := by
  unfold coinFrame; split <;> simp
@[simp] theorem gateTaken_tariff (k : Kiosk) (s : State) : (gateTaken k s).tariff = s.tariff := by
  simp only [gateTaken]; split <;> simp
@[simp] theorem gateNotTaken_tariff (k : Kiosk) (s : State) : (gateNotTaken k s).tariff = s.tariff := rfl
@[simp] theorem discardCoins_tariff (k : Kiosk) (s : State) : (discardCoins k s).tariff = s.tariff := rfl
@[simp] theorem releaseCoin_tariff (k : Kiosk) (s : State) : (releaseCoin k s).1.tariff = s.tariff := by
  unfold releaseCoin
  split
  · rfl
  · split
    · rfl
    · simp only [State.tariff_updCoin]; split <;> simp
@[simp] theorem tableChangedAt_tariff (k : Kiosk) (s : State) : (tableChangedAt k s).tariff = s.tariff := by
  unfold tableChangedAt; repeat' split
  all_goals simp
@[simp] theorem writeCoin_tariff (t : CoinType) (e : Option CoinEntry) (s : State) : (writeCoin t e s).tariff = s.tariff := by
  simp only [writeCoin, recomputeAll_tariff]
  exact foldl_keeps (fun k t => tableChangedAt k t) (fun t => t.tariff) tableChangedAt_tariff allKiosks _

/-! ### What the Receipt Composer leaves of the tariff -/

@[simp] theorem joinJob_tariff (k : Kiosk) (serial : Nat) (p : Printed) (s : State) : (joinJob k serial p s).tariff = s.tariff := rfl
@[simp] theorem makeJob_tariff (k : Kiosk) (c : Closed) (s : State) : (makeJob k c s).1.tariff = s.tariff := by
  simp only [makeJob]; split <;> simp
@[simp] theorem requestReceipt_tariff (k : Kiosk) (o : SessOutcome) (s : State) : (requestReceipt k o s).1.tariff = s.tariff := by
  obtain h | ⟨_, h⟩ := requestReceipt_cases k o s <;> simp [h]
@[simp] theorem updHead_tariff (k : Kiosk) (f : Job → Job) (s : State) : (updHead k f s).tariff = s.tariff := by
  unfold updHead; split <;> simp
@[simp] theorem printReady_tariff (k : Kiosk) (slots : Nat) (s : State) : (printReady k slots s).tariff = s.tariff := by
  unfold printReady; repeat' split
  all_goals simp
@[simp] theorem removeHead_tariff (k : Kiosk) (s : State) : (removeHead k s).tariff = s.tariff := by
  unfold removeHead; split <;> simp
@[simp] theorem printTaken_tariff (k : Kiosk) (n : Nat) (cut : Bool) (s : State) : (printTaken k n cut s).tariff = s.tariff := by
  simp only [printTaken]; split <;> simp
@[simp] theorem printNotTaken_tariff (k : Kiosk) (n : Nat) (s : State) : (printNotTaken k n s).tariff = s.tariff := by
  simp [printNotTaken]
@[simp] theorem resumeHead_tariff (k : Kiosk) (s : State) : (resumeHead k s).tariff = s.tariff := by simp [resumeHead]
@[simp] theorem paperChanged_tariff (k : Kiosk) (v : PaperIn) (s : State) : (paperChanged k v s).tariff = s.tariff := by
  unfold paperChanged; split <;> simp
@[simp] theorem receiptPresence_tariff (k : Kiosk) (s : State) : (receiptPresence k s).tariff = s.tariff := by
  simp [receiptPresence]

/-! ### What the Session Engine leaves of the tariff -/

@[simp] theorem toIdle_tariff (k : Kiosk) (m : Message) (s : State) : (toIdle k m s).tariff = s.tariff := by simp [toIdle]
@[simp] theorem settleRecord_tariff (k : Kiosk) (o : SessOutcome) (d : Bool) (s : State) :
    (settleRecord k o d s).tariff = s.tariff := by simp [settleRecord]
@[simp] theorem closeSession_tariff (k : Kiosk) (s : State) : (closeSession k s).tariff = s.tariff := by
  simp only [closeSession, toIdle_tariff, settleRecord_tariff]; repeat' split
  all_goals simp
@[simp] theorem closeIfDone_tariff (k : Kiosk) (s : State) : (closeIfDone k s).tariff = s.tariff := by
  simp only [closeIfDone]; split <;> simp
@[simp] theorem startPayout_tariff (k : Kiosk) (amount : Nat) (s : State) : (startPayout k amount s).tariff = s.tariff := by
  simp only [startPayout]
  split
  · rfl
  · split
    · rfl
    · split <;> rename_i h <;> simp [tariff_of_answer h]
@[simp] theorem enterChange_tariff (k : Kiosk) (s : State) : (enterChange k s).tariff = s.tariff := by simp [enterChange]
@[simp] theorem restoreAtRefund_tariff (k : Kiosk) (s : State) : (restoreAtRefund k s).tariff = s.tariff := by
  simp only [restoreAtRefund]; split <;> simp
@[simp] theorem enterRefund_tariff (k : Kiosk) (m : Message) (s : State) : (enterRefund k m s).tariff = s.tariff := by
  simp [enterRefund]
@[simp] theorem writeFailed_tariff (k : Kiosk) (m : Message) (s : State) : (writeFailed k m s).tariff = s.tariff := by
  simp [writeFailed]
@[simp] theorem enterWriting_tariff (k : Kiosk) (s : State) : (enterWriting k s).tariff = s.tariff := by
  simp only [enterWriting]
  split
  · simp
  · split
    · simp
    · split <;> rename_i h <;> simp [tariff_of_answer h]
@[simp] theorem writeConcluded_tariff (k : Kiosk) (w : WriteState) (s : State) : (writeConcluded k w s).tariff = s.tariff := by
  simp [writeConcluded]
@[simp] theorem cardResultFrame_tariff (k : Kiosk) (r : CardOutcome) (card counter : Nat) (s : State) :
    (cardResultFrame k r card counter s).tariff = s.tariff := by
  unfold cardResultFrame; repeat' split
  all_goals simp
@[simp] theorem enterPaying_tariff (k : Kiosk) (s : State) : (enterPaying k s).tariff = s.tariff := by simp [enterPaying]
@[simp] theorem paidUp_tariff (k : Kiosk) (s : State) : (paidUp k s).tariff = s.tariff := by
  unfold paidUp; split <;> simp
@[simp] theorem creditNotice_tariff (k : Kiosk) (t : CoinType) (v : Nat) (s : State) : (creditNotice k t v s).tariff = s.tariff := by
  simp only [creditNotice]; repeat' split
  all_goals simp
@[simp] theorem landingNotice_tariff (k : Kiosk) (s : State) : (landingNotice k s).tariff = s.tariff := by
  unfold landingNotice; split <;> simp
@[simp] theorem cancelPaying_tariff (k : Kiosk) (cause : Message) (s : State) : (cancelPaying k cause s).tariff = s.tariff := by
  simp only [cancelPaying]; split <;> simp
@[simp] theorem landedFrame_tariff (k : Kiosk) (d : Dest) (s : State) : (landedFrame k d s).tariff = s.tariff := by
  unfold landedFrame
  split
  · simp
  · simp only [State.tariff_updCoin, landingNotice_tariff]; split <;> simp
@[simp] theorem reprice_tariff (k : Kiosk) (s : State) : (reprice k s).tariff = s.tariff := by simp [reprice]
@[simp] theorem applySelect_tariff (k : Kiosk) (i : SelectItem) (s : State) : (applySelect k i s).tariff = s.tariff := by
  simp [applySelect]
@[simp] theorem setCard_tariff (k : Kiosk) (c : Option CardImage) (s : State) : (setCard k c s).tariff = s.tariff := by simp [setCard]
theorem startSession_tariff (k : Kiosk) {first : State → State} (h : ∀ t, (first t).tariff = t.tariff) (s : State) :
    (startSession k first s).tariff = s.tariff := by
  unfold startSession; repeat' split
  all_goals simp [h]
@[simp] theorem endWithoutRecord_tariff (k : Kiosk) (s : State) : (endWithoutRecord k s).tariff = s.tariff := by
  simp [endWithoutRecord]
@[simp] theorem sessionGranted_tariff (k : Kiosk) (auth : AuthState) (held : Nat) (s : State) :
    (sessionGranted k auth held s).tariff = s.tariff := by simp [sessionGranted]
@[simp] theorem sessionDenied_tariff (k : Kiosk) (m : Message) (s : State) : (sessionDenied k m s).tariff = s.tariff := by
  simp [sessionDenied]
@[simp] theorem decideOffline_tariff (k : Kiosk) (s : State) : (decideOffline k s).tariff = s.tariff := by
  unfold decideOffline
  split
  · split <;> rename_i h <;> simp [tariff_of_answer h]
  · rfl
@[simp] theorem authorise_tariff (k : Kiosk) (s : State) : (authorise k s).tariff = s.tariff := by
  simp only [authorise]; repeat' split
  all_goals simp
@[simp] theorem enterAuthorising_tariff (k : Kiosk) (s : State) : (enterAuthorising k s).tariff = s.tariff := by
  simp [enterAuthorising]
@[simp] theorem cancelAuthorising_tariff (k : Kiosk) (s : State) : (cancelAuthorising k s).tariff = s.tariff := by
  simp [cancelAuthorising]
@[simp] theorem authorisationExpired_tariff (k : Kiosk) (s : State) : (authorisationExpired k s).tariff = s.tariff := by
  simp [authorisationExpired]
@[simp] theorem linkLoss_tariff (s : State) : (linkLoss s).tariff = s.tariff := by
  unfold linkLoss
  exact foldl_keeps (fun (e : AuthEntry) t => decideOffline e.kiosk ((conclude e.kiosk .linkLoss (unlist e.kiosk t)).updSess e.kiosk
    (fun x => { x with tAuthorisation := none }))) (fun t => t.tariff) (fun _ _ => by simp) s.cards.authList s
@[simp] theorem stopListHit_tariff (n : Nat) (k : Kiosk) (s : State) : (stopListHit n k s).tariff = s.tariff := by
  simp only [stopListHit]; repeat' split
  all_goals simp
@[simp] theorem afterConfirm_tariff (k : Kiosk) (s : State) : (afterConfirm k s).tariff = s.tariff := by
  simp only [afterConfirm]; repeat' split
  all_goals simp
@[simp] theorem confirmReserved_tariff (k : Kiosk) (s : State) : (confirmReserved k s).tariff = s.tariff := by
  unfold confirmReserved
  split <;> rename_i h
  · simp [tariff_of_answer h]
  · split <;> simp [tariff_of_answer h]
@[simp] theorem confirm_tariff (k : Kiosk) (s : State) : (confirm k s).tariff = s.tariff := by
  simp only [confirm]; repeat' split
  all_goals simp
@[simp] theorem keySelectFrame_tariff (k : Kiosk) (i : SelectItem) (s : State) : (keySelectFrame k i s).tariff = s.tariff := by
  unfold keySelectFrame; split <;> simp [startSession_tariff]
@[simp] theorem keyConfirmFrame_tariff (k : Kiosk) (s : State) : (keyConfirmFrame k s).tariff = s.tariff := by
  unfold keyConfirmFrame; split <;> simp
@[simp] theorem keyCancelFrame_tariff (k : Kiosk) (s : State) : (keyCancelFrame k s).tariff = s.tariff := by
  unfold keyCancelFrame; split <;> simp
@[simp] theorem keyReceiptFrame_tariff (k : Kiosk) (wanted : Bool) (s : State) : (keyReceiptFrame k wanted s).tariff = s.tariff := by
  unfold keyReceiptFrame; split <;> simp
@[simp] theorem cardImageFrame_tariff (k : Kiosk) (c : CardImage) (s : State) : (cardImageFrame k c s).tariff = s.tariff := by
  unfold cardImageFrame; split <;> simp [startSession_tariff]
@[simp] theorem cardRemovalFrame_tariff (k : Kiosk) (s : State) : (cardRemovalFrame k s).tariff = s.tariff := by
  unfold cardRemovalFrame; repeat' split
  all_goals simp
@[simp] theorem payReportFrame_tariff (k : Kiosk) (counts : Vector Nat 6) (s : State) :
    (payReportFrame k counts s).tariff = s.tariff := by
  simp only [payReportFrame]; split <;> simp
@[simp] theorem payoutExpired_tariff (k : Kiosk) (s : State) : (payoutExpired k s).tariff = s.tariff := by simp [payoutExpired]
@[simp] theorem payTaken_tariff (k : Kiosk) (s : State) : (payTaken k s).tariff = s.tariff := by
  unfold payTaken; split <;> simp
@[simp] theorem payNotTaken_tariff (k : Kiosk) (s : State) : (payNotTaken k s).tariff = s.tariff := by
  unfold payNotTaken; split <;> simp
@[simp] theorem escrowTakenFor_tariff (k : Kiosk) (s : State) : (escrowTakenFor k s).tariff = s.tariff := by
  unfold escrowTakenFor; split <;> rename_i h <;> simp [tariff_of_answer h]
@[simp] theorem escrowNotTakenFor_tariff (k : Kiosk) (s : State) : (escrowNotTakenFor k s).tariff = s.tariff := by
  unfold escrowNotTakenFor; split <;> rename_i h <;> simp [tariff_of_answer h]
@[simp] theorem cardWriteNotTaken_tariff (k : Kiosk) (s : State) : (cardWriteNotTaken k s).tariff = s.tariff := by
  unfold cardWriteNotTaken; split <;> simp
@[simp] theorem strandSession_tariff (k : Kiosk) (s : State) : (strandSession k s).tariff = s.tariff := by
  simp only [strandSession, settleRecord_tariff]; repeat' split
  all_goals simp
@[simp] theorem sessionAbsence_tariff (k : Kiosk) (s : State) : (sessionAbsence k s).tariff = s.tariff := by
  unfold sessionAbsence; split <;> simp
@[simp] theorem sessionRestart_tariff (k : Kiosk) (s : State) : (sessionRestart k s).tariff = s.tariff := by
  simp only [sessionRestart, State.tariff_updSess]; split <;> simp
@[simp] theorem inactivityExpired_tariff (k : Kiosk) (s : State) : (inactivityExpired k s).tariff = s.tariff := by
  unfold inactivityExpired; split <;> simp
@[simp] theorem setService_tariff (k : Kiosk) (f : Service → Service) (s : State) : (setService k f s).tariff = s.tariff := by
  simp only [setService]; split <;> simp
@[simp] theorem serviceChanged_tariff (k : Kiosk) (v : ServiceIn) (s : State) : (serviceChanged k v s).tariff = s.tariff := by
  simp [serviceChanged]
@[simp] theorem modeShownAt_tariff (k : Kiosk) (s : State) : (modeShownAt k s).tariff = s.tariff := by
  unfold modeShownAt; split <;> simp

/-! ### What the Loop Controllers leave of the tariff -/

@[simp] theorem pollPresent_tariff (l : LoopId) (k : Kiosk) (round : List Kiosk) (fresh : Bool) (s : State) :
    (pollPresent l k round fresh s).tariff = s.tariff := by simp [pollPresent]
@[simp] theorem pollAbsent_tariff (l : LoopId) (k : Kiosk) (s : State) : (pollAbsent l k s).tariff = s.tariff := by
  simp [pollAbsent]
@[simp] theorem newRound_tariff (l : LoopId) (s : State) : (newRound l s).tariff = s.tariff := by
  simp only [newRound]; repeat' split
  all_goals simp
@[simp] theorem nextPoll_tariff (l : LoopId) (s : State) : (nextPoll l s).tariff = s.tariff := by
  unfold nextPoll; repeat' split
  all_goals simp
@[simp] theorem startLoop_tariff (l : LoopId) (s : State) : (startLoop l s).tariff = s.tariff := by
  unfold startLoop; split <;> simp
@[simp] theorem startLoops_tariff (s : State) : (startLoops s).tariff = s.tariff := by simp [startLoops]
@[simp] theorem reportTaken_tariff (k : Kiosk) (c : Cmd) (s : State) : (reportTaken k c s).tariff = s.tariff := by
  unfold reportTaken; split <;> simp
@[simp] theorem takeHead_tariff (k : Kiosk) (a : Bool) (s : State) : (takeHead k a s).tariff = s.tariff := by
  unfold takeHead; repeat' split
  all_goals simp
@[simp] theorem reportNotTaken_tariff (k : Kiosk) (c : Cmd) (s : State) : (reportNotTaken k c s).tariff = s.tariff := by
  unfold reportNotTaken; split <;> simp
@[simp] theorem dropQueue_tariff (k : Kiosk) (s : State) : (dropQueue k s).tariff = s.tariff :=
  foldl_keeps (fun c t => reportNotTaken k c t) (fun t => t.tariff) (fun c t => reportNotTaken_tariff k c t) _ _
@[simp] theorem becomeAbsent_tariff (k : Kiosk) (s : State) : (becomeAbsent k s).tariff = s.tariff := by simp [becomeAbsent]
@[simp] theorem becomePresent_tariff (k : Kiosk) (s : State) : (becomePresent k s).tariff = s.tariff := by simp [becomePresent]
@[simp] theorem missAt_tariff (k : Kiosk) (s : State) : (missAt k s).tariff = s.tariff := by
  unfold missAt; repeat' split
  all_goals simp
@[simp] theorem missExchange_tariff (l : LoopId) (s : State) : (missExchange l s).tariff = s.tariff := by
  unfold missExchange; split <;> simp
@[simp] theorem acknowledge_tariff (k : Kiosk) (pk : PollKind) (a : Bool) (s : State) : (acknowledge k pk a s).tariff = s.tariff := by
  simp only [acknowledge]; repeat' split
  all_goals simp
/-- A good reply whose delivery leaves the tariff alone leaves it alone. -/
theorem goodReply_tariff {deliver : Kiosk → State → State} (h : ∀ k t, (deliver k t).tariff = t.tariff) (l : LoopId) (a : Bool)
    (s : State) : (goodReply l a deliver s).tariff = s.tariff := by
  unfold goodReply; repeat' split
  all_goals simp [h]
@[simp] theorem doorChanged_tariff (k : Kiosk) (v : DoorIn) (s : State) : (doorChanged k v s).tariff = s.tariff := by
  unfold doorChanged; split <;> simp
@[simp] theorem handChanges_tariff (k : Kiosk) (old new : KLink) (s : State) : (handChanges k old new s).tariff = s.tariff := by
  simp only [handChanges]; repeat' split
  all_goals simp
@[simp] theorem statusFrame_tariff (d : DoorIn) (c : CashboxIn) (p : PaperIn) (v : ServiceIn) (k : Kiosk) (s : State) :
    (statusFrame d c p v k s).tariff = s.tariff := by simp [statusFrame]
@[simp] theorem inputsReset_tariff (k : Kiosk) (s : State) : (inputsReset k s).tariff = s.tariff := by simp [inputsReset]
@[simp] theorem joinRotation_tariff (k : Kiosk) (s : State) : (joinRotation k s).tariff = s.tariff := by simp [joinRotation]
@[simp] theorem configureKiosk_tariff (k : Kiosk) (s : State) : (configureKiosk k s).tariff = s.tariff := by simp [configureKiosk]
@[simp] theorem leaveSchedule_tariff (k : Kiosk) (s : State) : (leaveSchedule k s).tariff = s.tariff := by
  unfold leaveSchedule; repeat' split
  all_goals simp
@[simp] theorem unconfigureKiosk_tariff (k : Kiosk) (s : State) : (unconfigureKiosk k s).tariff = s.tariff := by
  simp [unconfigureKiosk]

/-! ### The delivery of a reply -/

theorem deliverIf_tariff {f : Kiosk → State → State} (h : ∀ k t, (f k t).tariff = t.tariff) (good : Bool) (k : Kiosk) (s : State) :
    (deliverIf good f k s).tariff = s.tariff := by
  unfold deliverIf; split <;> simp [h]
@[simp] theorem deliverReply_tariff (i : Instr) (k : Kiosk) (s : State) : (deliverReply i k s).tariff = s.tariff := by
  unfold deliverReply; split <;> simp
@[simp] theorem deliverRaw_tariff (kind : Byte) (payload : List Byte) (k : Kiosk) (s : State) :
    (deliverRaw kind payload k s).tariff = s.tariff := by
  unfold deliverRaw; split <;> simp

/-- A good reply of any row leaves the tariff alone (R4). -/
theorem exec_reply_tariff {i : Instr} {l : LoopId} {a : Bool} (hi : i.replyLine = some (l, a)) {s t : State}
    (h : exec i s = .next t) : t.tariff = s.tariff := by
  have key : ∃ deliver : Kiosk → State → State, exec i s = .next (goodReply l a deliver s) ∧
      ∀ k u, (deliver k u).tariff = u.tariff := by
    cases i <;> cases hi <;> exact ⟨_, rfl, fun k u => by simp [deliverIf_tariff]⟩
  obtain ⟨deliver, he, hd⟩ := key
  cases he.symm.trans h
  exact goodReply_tariff hd l a s

/-! ### Banks (R54, R55, R61, R62, R64) -/

@[simp] theorem Tariff.bank_setBank_ne (t : Tariff) {i j : BankId} (h : j ≠ i) (b : Bank) : (t.setBank i b).bank j = t.bank j := by
  cases i <;> cases j <;> simp_all [Tariff.setBank, Tariff.bank]

/-- A bank replaced by one that is not ACTIVE leaves at most the other one so (R54). -/
theorem Tariff.oneActive_setBank (t : Tariff) (i : BankId) {b : Bank} (hb : b.state ≠ .active) : (t.setBank i b).oneActive := by
  cases i
  · exact fun hab => hb hab.1
  · exact fun hab => hb hab.2

/-- After the hand-over the named bank is ACTIVE, and a former ACTIVE one VALID (R64). -/
theorem Tariff.handOver_state (t : Tariff) (i j : BankId) :
    ((t.handOver i).bank j).state =
      if j = i then .active else if (t.bank j).state = .active then .valid else (t.bank j).state := by
  cases i <;> cases j <;> simp [Tariff.handOver, Tariff.setBank, Tariff.bank] <;> split <;> simp_all

/-- A hand-over leaves one bank ACTIVE, whatever stood before (R64). -/
theorem Tariff.oneActive_handOver (t : Tariff) (i : BankId) : (t.handOver i).oneActive := by
  have former : ∀ j, j ≠ i → ((t.handOver i).bank j).state ≠ .active := by
    intro j hj
    rw [Tariff.handOver_state, if_neg hj]
    split <;> simp_all
  cases i
  · exact fun hab => former .b (by decide) hab.2
  · exact fun hab => former .a (by decide) hab.1

theorem makeSwitch_tariff (i : BankId) (s : State) : (makeSwitch i s).tariff = s.tariff.handOver i := by simp [makeSwitch]

theorem judgeSwitch_oneActive {s : State} (h : s.tariff.oneActive) : (judgeSwitch s).tariff.oneActive := by
  rw [judgeSwitch_tariff]
  split
  · exact h
  · split
    · exact Tariff.oneActive_handOver _ _
    · exact h

/-! ### The clock and the restarts (R169, R172, R188) -/

theorem clockTo_oneActive {s : State} (h : s.tariff.oneActive) (d : DateTime) : (clockTo d s).tariff.oneActive :=
  judgeSwitch_oneActive (by simpa using h)
theorem clockTick_oneActive {s : State} (h : s.tariff.oneActive) : (clockTick s).tariff.oneActive := by
  simp only [clockTick]
  split
  · exact h
  · split
    · simpa using h
    · exact judgeSwitch_oneActive (by simpa using h)
theorem setClock_oneActive {s : State} (h : s.tariff.oneActive) (d : DateTime) : (setClock d s).tariff.oneActive := by
  unfold setClock
  split
  · exact judgeSwitch_oneActive h
  · exact clockTo_oneActive h d
theorem clockAfterRestart_oneActive {s : State} (h : s.tariff.oneActive) (seconds : Nat) :
    (clockAfterRestart seconds s).tariff.oneActive := by
  unfold clockAfterRestart
  split
  · exact h
  · exact clockTo_oneActive h _

theorem atEveryKiosk_tariff {f : Kiosk → State → State} (h : ∀ k t, (f k t).tariff = t.tariff) (s : State) :
    (atEveryKiosk f s).tariff = s.tariff := foldl_keeps f (fun t => t.tariff) h allKiosks s
@[simp] theorem depotRestart_tariff (c : RestartCause) (pins : Fin 32) (s : State) : (depotRestart c pins s).tariff = s.tariff := rfl
@[simp] theorem cardsRestart_tariff (s : State) : (cardsRestart s).tariff = s.tariff :=
  atEveryKiosk_tariff (fun _ _ => by simp) _
@[simp] theorem displayRestart_tariff (k : Kiosk) (s : State) : (displayRestart k s).tariff = s.tariff := rfl

theorem endRestart_oneActive {s : State} (h : s.tariff.oneActive) (seconds : Nat) : (endRestart seconds s).tariff.oneActive := by
  simp only [endRestart, startLoops_tariff, recomputeAll_tariff]
  rw [foldl_keeps (fun e t => raiseLevel e t) (fun t => t.tariff) raiseLevel_tariff]
  refine clockAfterRestart_oneActive ?_ seconds
  exact h

/-- A warm restart moves the banks only by the switch that its end judges (R173). -/
theorem warmRestart_oneActive {s : State} (h : s.tariff.oneActive) (c : RestartCause) (w : WarmStart) :
    (warmRestart c w s).tariff.oneActive := by
  simp only [warmRestart]
  refine endRestart_oneActive ?_ _
  rw [atEveryKiosk_tariff displayRestart_tariff, atEveryKiosk_tariff (by simp), atEveryKiosk_tariff sessionRestart_tariff,
    atEveryKiosk_tariff (by simp), cardsRestart_tariff, atEveryKiosk_tariff (by simp)]
  exact h

/-! ### The link, and the frames that are no requests (R175–R177) -/

@[simp] theorem setLink_tariff (s : State) (l : DepotLink) : (s.setLink l).tariff = s.tariff := rfl
@[simp] theorem noReply_tariff (s : State) : s.noReply.tariff = s.tariff := rfl
@[simp] theorem frameForOther_tariff (s : State) : (frameForOther s).tariff = s.tariff := by
  unfold frameForOther; split <;> simp [enterOnline]
@[simp] theorem supervisionExpired_tariff (s : State) : (supervisionExpired s).tariff = s.tariff := by
  unfold supervisionExpired; split <;> simp
@[simp] theorem holdExpired_tariff (s : State) : (holdExpired s).tariff = s.tariff := by
  unfold holdExpired; split <;> simp
@[simp] theorem huntExpired_tariff (s : State) : (huntExpired s).tariff = s.tariff := by
  unfold huntExpired; split <;> simp
theorem received_tariff {f : State → State} (h : ∀ t, (f t).tariff = t.tariff) (s : State) : (received f s).tariff = s.tariff := by
  unfold received; split <;> simp [h]

/-! ### The handlers of the requests -/

@[simp] theorem refuse_state (st : Status) (s : State) : (refuse st s).1 = s := rfl
@[simp] theorem taken_state (f : State → State) (s : State) : (taken f s).1 = f s := rfl

/-- A handler that leaves the tariff alone. -/
def Handler.KeepsTariff (h : Handler) : Prop := ∀ s, (h s).1.tariff = s.tariff

theorem sized_keepsTariff {α : Type} (l : List α) (n : Nat) {h : Handler} (hh : h.KeepsTariff) : (sized l n h).KeepsTariff := by
  intro s; unfold sized; split
  · exact hh s
  · rfl
theorem kioskControl_keepsTariff (kiosk : Byte) (refused : Kiosk → State → Bool) {act : Kiosk → State → State}
    (h : ∀ k t, (act k t).tariff = t.tariff) : (kioskControl kiosk refused act).KeepsTariff := by
  intro s; simp only [kioskControl]; repeat' split
  all_goals simp [h]
theorem changeMode_tariff (m : PartMode) (s : State) : (changeMode m s).tariff = s.tariff :=
  foldl_keeps (fun k t => modeShownAt k t) (fun t => t.tariff) modeShownAt_tariff allKiosks _
theorem clearEvents_tariff (named : List EventKind) (s : State) : (clearEvents named s).tariff = s.tariff := by
  simp only [clearEvents]
  rw [foldl_keeps (fun e t => raiseLevel e t) (fun t => t.tariff) raiseLevel_tariff,
    foldl_keeps (fun e t => clearEvent e t) (fun t => t.tariff) (fun _ _ => rfl)]

/-- A handler that keeps R54. -/
def Handler.KeepsOneActive (h : Handler) : Prop := ∀ s, s.tariff.oneActive → (h s).1.tariff.oneActive

theorem Handler.KeepsTariff.keepsOneActive {h : Handler} (hh : h.KeepsTariff) : h.KeepsOneActive := fun s hs => by
  rw [hh s]; exact hs

theorem sized_keepsOneActive {α : Type} (l : List α) (n : Nat) {h : Handler} (hh : h.KeepsOneActive) :
    (sized l n h).KeepsOneActive := by
  intro s hs; unfold sized; split
  · exact hh s hs
  · exact hs

/-- A banked write leaves the tariff or makes its bank EDITING (R55). -/
theorem bankedWrite_keepsOneActive (bank : Byte) (f : Bank → Except Status Bank) : (bankedWrite bank f).KeepsOneActive := by
  intro s hs
  simp only [bankedWrite]
  split
  · exact hs
  · split
    · exact hs
    · split
      · exact hs
      · split
        · exact hs
        · exact Tariff.oneActive_setBank s.tariff _ (by simp)

/-- A BANK-SWITCH leaves the tariff, makes its bank EDITING or VALID, or hands the ACTIVE state over (R61). -/
theorem doBankSwitch_keepsOneActive (bank : Byte) (minute : MinuteField) : (doBankSwitch bank minute).KeepsOneActive := by
  intro s hs
  simp only [doBankSwitch]
  split
  · split
    · exact hs
    · split
      · exact hs
      · split
        · exact hs
        · split
          · exact Tariff.oneActive_setBank s.tariff _ (by simp)
          · simp only [taken_state]
            split
            · exact Tariff.oneActive_setBank s.tariff _ (by simp)
            · rw [makeSwitch_tariff]
              exact Tariff.oneActive_handOver _ _
  · exact hs

theorem doSwitchCancel_keepsOneActive : doSwitchCancel.KeepsOneActive := by
  intro s hs
  unfold doSwitchCancel; split
  · exact hs
  · exact hs

theorem doClockSet_keepsOneActive (f : DateTimeField) : (doClockSet f).KeepsOneActive := by
  intro s hs
  unfold doClockSet; split
  · exact hs
  · exact setClock_oneActive hs _

theorem doWriteLoop_keepsTariff (i r e : Byte) : (doWriteLoop i r e).KeepsTariff := by
  intro s; unfold doWriteLoop; repeat' split
  all_goals simp
theorem doWriteKiosk_keepsTariff (i c : Byte) : (doWriteKiosk i c).KeepsTariff := by
  intro s; unfold doWriteKiosk; repeat' split
  all_goals simp
theorem doWriteCalib_keepsTariff (i : Byte) (u : CalibUnit) : (doWriteCalib i u).KeepsTariff := by
  intro s; unfold doWriteCalib; repeat' split
  all_goals simp
theorem doWriteCoin_keepsTariff (i : Byte) (u : CoinUnit) : (doWriteCoin i u).KeepsTariff := by
  intro s; unfold doWriteCoin; repeat' split
  all_goals simp
theorem doWriteTube_keepsTariff (i t : Byte) (u : TubeUnit) : (doWriteTube i t u).KeepsTariff := by
  intro s; simp only [doWriteTube]; repeat' split
  all_goals simp
theorem doWriteSettings_keepsTariff (i : Byte) (v : Half) : (doWriteSettings i v).KeepsTariff := by
  intro s; simp only [doWriteSettings]; repeat' split
  all_goals simp only [refuse_state, taken_state]
  split <;> simp
theorem doWriteTemplate_keepsTariff (i p : Byte) (u : TemplateUnit) : (doWriteTemplate i p u).KeepsTariff := by
  refine sized_keepsTariff _ _ fun s => ?_
  repeat' split
  all_goals simp
theorem doReadLoop_keepsTariff (i : Byte) : (doReadLoop i).KeepsTariff := by
  intro s; unfold doReadLoop; split <;> rfl
theorem doReadKiosk_keepsTariff (i : Byte) : (doReadKiosk i).KeepsTariff := by
  intro s; unfold doReadKiosk; split <;> rfl
theorem doReadCalib_keepsTariff (i : Byte) : (doReadCalib i).KeepsTariff := by
  intro s; unfold doReadCalib; split <;> rfl
theorem doReadCoin_keepsTariff (i : Byte) : (doReadCoin i).KeepsTariff := by
  intro s; unfold doReadCoin; split <;> rfl
theorem doReadTube_keepsTariff (i : Byte) : (doReadTube i).KeepsTariff := by
  intro s; unfold doReadTube; split <;> rfl
theorem doReadTemplate_keepsTariff (i p : Byte) : (doReadTemplate i p).KeepsTariff := by
  intro s; unfold doReadTemplate; split <;> rfl
theorem doReadBanked_keepsTariff (t : BankedTable) (b i : Byte) : (doReadBanked t b i).KeepsTariff := by
  intro s; unfold doReadBanked; repeat' split
  all_goals rfl
theorem doStoplistAdd_keepsTariff (n : Word) : (doStoplistAdd n).KeepsTariff := by
  intro s; simp only [doStoplistAdd]; repeat' split
  case isFalse.isFalse.isFalse =>
    rw [taken_state, foldl_keeps (fun k t => stopListHit n.toNat k t) (fun t => t.tariff) (stopListHit_tariff _), setStop_tariff]
  all_goals simp
theorem doStoplistRemove_keepsTariff (n : Word) : (doStoplistRemove n).KeepsTariff := by
  intro s; simp only [doStoplistRemove]; repeat' split
  all_goals rfl
theorem doJournalRead_keepsTariff : doJournalRead.KeepsTariff := by
  intro s; unfold doJournalRead; split <;> rfl
theorem doJournalPop_keepsTariff : doJournalPop.KeepsTariff := by
  intro s; unfold doJournalPop; split <;> rfl
theorem doAuthAnswer_keepsTariff (k : Byte) (n : Half) (a d : Byte) : (doAuthAnswer k n a d).KeepsTariff := by
  intro s; simp only [doAuthAnswer]; repeat' split
  all_goals simp
theorem doEventsClear_keepsTariff (w : Word) : (doEventsClear w).KeepsTariff := by
  intro s; unfold doEventsClear; split <;> simp [clearEvents_tariff]
theorem doEventsMask_keepsTariff (w : Word) : (doEventsMask w).KeepsTariff := by
  intro s; unfold doEventsMask; split <;> rfl
theorem doKioskRead_keepsTariff (k : Byte) : (doKioskRead k).KeepsTariff := by
  intro s; unfold doKioskRead; split <;> rfl
theorem doFloatSet_keepsTariff (v : Triple) : (doFloatSet v).KeepsTariff := by
  intro s; unfold doFloatSet; repeat' split
  all_goals simp
theorem doModeLoading_keepsTariff : doModeLoading.KeepsTariff := by
  intro s; unfold doModeLoading; repeat' split
  all_goals simp [changeMode_tariff]
theorem doModeSelling_keepsTariff : doModeSelling.KeepsTariff := by
  intro s; unfold doModeSelling; repeat' split
  all_goals simp [changeMode_tariff, incomplete]
theorem doModeSuspended_keepsTariff : doModeSuspended.KeepsTariff := by
  intro s; unfold doModeSuspended; repeat' split
  all_goals simp [changeMode_tariff]

/-- Every request's handler keeps R54: only the banked writes, the switch requests and the clock move the banks. -/
theorem handlerOf_keepsOneActive {i : Instr} {h : Handler} (hi : handlerOf i = some h) : h.KeepsOneActive := by
  cases i <;> cases hi
  case clockSet d => exact doClockSet_keepsOneActive d
  case tableWriteHeader b u => exact sized_keepsOneActive _ _ (bankedWrite_keepsOneActive _ _)
  case tableWriteProduct b i u => exact sized_keepsOneActive _ _ (bankedWrite_keepsOneActive _ _)
  case tableWriteFare b i c => exact sized_keepsOneActive _ _ (bankedWrite_keepsOneActive _ _)
  case tableWriteBand b i f => exact sized_keepsOneActive _ _ (bankedWrite_keepsOneActive _ _)
  case tableWriteDayplan b i u => exact sized_keepsOneActive _ _ (bankedWrite_keepsOneActive _ _)
  case tableWriteClass b i p => exact sized_keepsOneActive _ _ (bankedWrite_keepsOneActive _ _)
  case tableWriteHoliday b i u => exact bankedWrite_keepsOneActive _ _
  case bankSwitch b m => exact doBankSwitch_keepsOneActive b m
  case switchCancel => exact doSwitchCancel_keepsOneActive
  all_goals apply Handler.KeepsTariff.keepsOneActive
  case statusRead => exact fun _ => rfl
  case tableWriteLoop i r e => exact doWriteLoop_keepsTariff i r e
  case tableWriteKiosk i c => exact doWriteKiosk_keepsTariff i c
  case tableWriteCalib i u => exact doWriteCalib_keepsTariff i u
  case tableWriteCoin i u => exact doWriteCoin_keepsTariff i u
  case tableWriteTube i t u => exact doWriteTube_keepsTariff i t u
  case tableWriteSettings i v => exact doWriteSettings_keepsTariff i v
  case tableWriteTemplate i p u => exact doWriteTemplate_keepsTariff i p u
  case tableReadLoop i => exact doReadLoop_keepsTariff i
  case tableReadKiosk i => exact doReadKiosk_keepsTariff i
  case tableReadCalib i => exact doReadCalib_keepsTariff i
  case tableReadCoin i => exact doReadCoin_keepsTariff i
  case tableReadTube i => exact doReadTube_keepsTariff i
  case tableReadSettings => exact fun _ => rfl
  case tableReadTemplate i p => exact doReadTemplate_keepsTariff i p
  case tableReadBanked t b i => exact doReadBanked_keepsTariff t b i
  case stoplistAdd n => exact doStoplistAdd_keepsTariff n
  case stoplistRemove n => exact doStoplistRemove_keepsTariff n
  case stoplistClear => exact fun _ => rfl
  case journalRead => exact doJournalRead_keepsTariff
  case journalPop => exact doJournalPop_keepsTariff
  case authFetch => exact fun _ => rfl
  case authAnswer k n a d => exact doAuthAnswer_keepsTariff k n a d
  case eventsRead => exact fun _ => rfl
  case eventsClear e => exact doEventsClear_keepsTariff e
  case eventsMask e => exact doEventsMask_keepsTariff e
  case kioskControlInService k => exact kioskControl_keepsTariff k _ (fun _ _ => setService_tariff _ _ _)
  case kioskControlOutOfService k => exact kioskControl_keepsTariff k _ (fun _ _ => setService_tariff _ _ _)
  case kioskControlBlock k => exact kioskControl_keepsTariff k _ inletBlock_tariff
  case kioskControlRelease k => exact kioskControl_keepsTariff k _ inletRelease_tariff
  case kioskControlModeLatched k => exact kioskControl_keepsTariff k _ (fun _ _ => inletMode_tariff _ _ _)
  case kioskControlModeFollowing k => exact kioskControl_keepsTariff k _ (fun _ _ => inletMode_tariff _ _ _)
  case kioskRead k => exact doKioskRead_keepsTariff k
  case floatSet f => exact doFloatSet_keepsTariff f
  case modeSetLoading => exact doModeLoading_keepsTariff
  case modeSetSelling => exact doModeSelling_keepsTariff
  case modeSetSuspended => exact doModeSuspended_keepsTariff
  case restart => exact fun _ => rfl

theorem doRaw_keepsOneActive (kind : Byte) (p : List Byte) : (doRaw kind p).KeepsOneActive := by
  intro s hs
  unfold doRaw; split
  · next h hi => exact handlerOf_keepsOneActive hi s hs
  · exact hs

/-- A request whose handler keeps R54 keeps it, heard or not (R175). -/
theorem depotRequest_oneActive {h : Handler} (hh : h.KeepsOneActive) (kind : Byte) {s : State} (hs : s.tariff.oneActive) :
    (depotRequest kind h s).tariff.oneActive := by
  have hv : (frameForStation s).tariff.oneActive := by simpa using hs
  unfold depotRequest received
  split
  · exact hs
  · simp only
    split
    · exact hv
    · exact hh _ hv

/-- A request's row sends its handler's answer. -/
theorem exec_request {i : Instr} {h : Handler} (hi : handlerOf i = some h) (s : State) :
    ∃ kind, exec i s = .next (depotRequest kind h s) := by
  cases i <;> cases hi <;> exact ⟨_, rfl⟩

/-! ### Every step (R54) -/

/-- The starts, the misses, the timers and the frames that no row reads keep R54. -/
theorem exec_event_oneActive {i : Instr} (hreq : handlerOf i = none) (hrep : i.replyLine = none) {s t : State}
    (hs : s.tariff.oneActive) (h : exec i s = .next t) : t.tariff.oneActive := by
  cases i <;> cases hreq <;> cases hrep <;> obtain rfl := Host.Outcome.next.inj h
  case coldStart pins => exact fun hab => absurd (a := Bank.cold.state = .active) hab.1 (by decide)
  case resetPin w => exact warmRestart_oneActive hs .pin w
  case commandRestart w =>
    split
    · exact warmRestart_oneActive hs .command w
    · exact hs
  case frameAbandoned l c => simpa using hs
  case missNoReply l => simpa using hs
  case missBadCheck l => simpa using hs
  case missWrongAddress l => simpa using hs
  case inactivityTimerExpiry k => split <;> simpa using hs
  case authorisationTimerExpiry k => split <;> simpa using hs
  case cardWriteTimerExpiry k => split <;> simpa using hs
  case payoutTimerExpiry k => split <;> simpa using hs
  case supervisionTimerExpiry => simpa using hs
  case holdTimerExpiry => simpa using hs
  case huntStepExpiry => simpa using hs
  case clockSecond => exact clockTick_oneActive hs
  case depotBadFrame => rw [received_tariff noReply_tariff]; exact hs
  case depotFrameOtherStation => rw [received_tariff (by simp)]; exact hs
  case depotFrameNoReply => rw [received_tariff (by simp)]; exact hs
  case badKind kind p =>
    split
    · rw [received_tariff (by simp)]; exact hs
    · exact depotRequest_oneActive (doRaw_keepsOneActive kind p) kind hs

theorem exec_oneActive {i : Instr} {s t : State} (hs : s.tariff.oneActive) (h : exec i s = .next t) : t.tariff.oneActive := by
  cases hreq : handlerOf i with
  | some hd =>
    obtain ⟨kind, he⟩ := exec_request hreq s
    cases he.symm.trans h
    exact depotRequest_oneActive (handlerOf_keepsOneActive hreq) kind hs
  | none =>
    cases hrep : i.replyLine with
    | some p =>
      rw [exec_reply_tariff hrep h]
      exact hs
    | none => exact exec_event_oneActive hreq hrep hs h

/-- Settles O34: every step idles or executes one command. -/
theorem oneActiveBankKeptByEveryStep : Obligations.OneActiveBankKeptByEveryStep := by
  intro s t hs h
  unfold step at h
  split at h
  · cases h; exact hs
  · exact exec_oneActive (by exact hs) h

end Sys2Proof.Machine
end

section
/-! SUPPORT. Prices (sections 4.4 to 4.6): the day type, the band, the rounding of fares and of the due, and the chain of
checks of a sale and of a top-up. -/

namespace Sys2Proof.Machine

/-! ### Rounding (R69–R71) -/

/-- A line whose remainder is below half the step rounds down (R71). -/
theorem roundDue_down {line g : Nat} (maxSale : Nat) (h : 2 * (line % g) < g) : roundDue line g maxSale = line - line % g := by
  simp [roundDue, Nat.not_le.mpr h]

/-- A half or more rounds up within max sale (R71). -/
theorem roundDue_up {line g maxSale : Nat} (h : g ≤ 2 * (line % g)) (hm : line - line % g + g ≤ maxSale) :
    roundDue line g maxSale = line - line % g + g := by
  simp [roundDue, h, Nat.not_lt.mpr hm]

/-- Where rounding up passes max sale, the largest multiple within it is taken (R71). -/
theorem roundDue_held {line g maxSale : Nat} (h : g ≤ 2 * (line % g)) (hm : maxSale < line - line % g + g) :
    roundDue line g maxSale = maxSale / g * g := by
  simp [roundDue, h, hm]

/-- The largest multiple of the step within a bound. -/
theorem le_div_mul_of_dvd {g m n : Nat} (hg : 0 < g) (hd : g ∣ m) (hm : m ≤ n) : m ≤ n / g * g := by
  obtain ⟨q, rfl⟩ := hd
  rw [Nat.mul_comm g q]
  exact Nat.mul_le_mul_right g ((Nat.le_div_iff_mul_le hg).mpr (by rwa [Nat.mul_comm q g]))

theorem dvd_roundDue (line g maxSale : Nat) : g ∣ roundDue line g maxSale := by
  have hdown : g ∣ line - line % g := Nat.dvd_sub_mod line
  by_cases h : g ≤ 2 * (line % g)
  · by_cases hm : maxSale < line - line % g + g
    · rw [roundDue_held h hm]; exact Nat.dvd_mul_left g _
    · rw [roundDue_up h (by omega)]; exact Nat.dvd_add hdown (Nat.dvd_refl g)
  · rw [roundDue_down maxSale (by omega)]; exact hdown

theorem roundDue_le {line g maxSale : Nat} (h : line ≤ maxSale) : roundDue line g maxSale ≤ maxSale := by
  by_cases hh : g ≤ 2 * (line % g)
  · by_cases hm : maxSale < line - line % g + g
    · rw [roundDue_held hh hm]; exact Nat.div_mul_le_self maxSale g
    · rw [roundDue_up hh (by omega)]; omega
  · rw [roundDue_down maxSale (by omega)]; omega

/-- Settles O28, by the three ways a line amount rounds. -/
theorem dueRoundsToStep : Obligations.DueRoundsToStep := by
  intro line g maxSale hg
  refine ⟨roundDue_down maxSale, roundDue_up, fun h hm => ?_, fun h => ⟨roundDue_le h, dvd_roundDue line g maxSale⟩⟩
  rw [roundDue_held h hm]
  exact ⟨Nat.dvd_mul_left g _, Nat.div_mul_le_self maxSale g, fun m hd hle => le_div_mul_of_dvd hg hd hle⟩

/-! ### Top-ups (R72) -/

/-- The ACTIVE bank's header is the one that other blocks read (R73). -/
theorem activeHeader_eq {s : State} {i : BankId} (h : s.tariff.active = some i) :
    s.activeHeader = (s.tariff.bank i).header := by simp [State.activeHeader, h]

theorem Header.offers_iff {h : Header} {amount : Nat} :
    h.offers amount = true ↔
      (amount ≠ 0 ∧ amount ∈ h.denominations) ∨ (amount % 100 = 0 ∧ h.topupMin ≤ amount ∧ amount ≤ h.topupMax) := by
  simp [Header.offers]

/-- A top-up at a bank with a header: the amount, then the card maximum, then the price (R72). -/
theorem topupPrice_active {s : State} {i : BankId} {h : Header} (ha : s.tariff.active = some i)
    (hh : (s.tariff.bank i).header = some h) (amount balance : Nat) :
    topupPrice s amount balance =
      if !h.offers amount then .refused .amountInvalid
      else if h.cardMax < balance + amount then .refused .overBalance
      else .price { due := amount + h.fee, bank := i, detail := .topup amount h.fee } := by
  simp only [topupPrice, activeHeader_eq ha, hh, ha]

/-- Settles O30, by the branches of the top-up's price. -/
theorem topupPricedByHeader : Obligations.TopupPricedByHeader := by
  refine fun s amount balance => ⟨fun hn => by simp [topupPrice, hn], fun i h ha hh => ?_⟩
  rw [topupPrice_active ha hh]
  refine ⟨fun hd hs => ?_, fun ho => ?_⟩
  · have hno : h.offers amount = false := by
      rw [Bool.eq_false_iff]
      exact fun ho => (Header.offers_iff.mp ho).elim hd hs
    rw [hno]; rfl
  · rw [Header.offers_iff.mpr ho]
    exact ⟨fun hover => if_pos hover, fun hfit => if_neg (Nat.not_lt.mpr hfit)⟩

/-! ### Bands and factors (R69, R70) -/

/-- The band of a plan is the first from its end that has begun. -/
theorem bandOf_eq_find (plan : List Band) (m : Nat) : bandOf plan m = plan.reverse.find? (fun b => decide (b.start ≤ m)) := by
  rw [bandOf, ← List.head?_reverse, ← List.filter_reverse, List.head?_filter]

theorem bandOf_eq_some_iff {plan : List Band} {m : Nat} {b : Band} :
    bandOf plan m = some b ↔
      ∃ before after, plan = before ++ b :: after ∧ b.start ≤ m ∧ ∀ c ∈ after, m < c.start := by
  rw [bandOf_eq_find, List.find?_eq_some_iff_append]
  constructor
  · rintro ⟨hb, after, before, hsplit, hafter⟩
    refine ⟨before.reverse, after.reverse, ?_, by simpa using hb, by simpa using hafter⟩
    simpa using congrArg List.reverse hsplit
  · rintro ⟨before, after, rfl, hb, hafter⟩
    exact ⟨by simpa using hb, after.reverse, before.reverse, by simp, by simpa using hafter⟩

/-- A plan that begins at 0 has a band at every minute. -/
theorem bandOf_isSome {b : Band} (hb : b.start = 0) (rest : List Band) (m : Nat) : (bandOf (b :: rest) m).isSome = true := by
  rw [bandOf_eq_find, List.find?_isSome]
  exact ⟨b, by simp, by simp [hb]⟩

/-- The band minute is the minute of the day, counted from the boundary round the day (R69). -/
theorem bandMinute_spec {minute boundary : Nat} (hm : minute < 1440) (hb : boundary < 1440) :
    (bandMinute minute boundary + boundary) % 1440 = minute ∧ bandMinute minute boundary < 1440 := by
  unfold bandMinute; split <;> omega

/-- The banded fare and the discount round half up (R69, R70). -/
theorem fares_round_half_up (fare factor percent : Nat) :
    (2 * ((fare * factor) % 1000) < 1000 → bandedFare fare factor * 1000 = fare * factor - (fare * factor) % 1000) ∧
    (1000 ≤ 2 * ((fare * factor) % 1000) →
      bandedFare fare factor * 1000 = fare * factor - (fare * factor) % 1000 + 1000) ∧
    netFare fare percent = fare - (fare * percent + 50) / 100 ∧ (percent ≤ 100 → netFare fare percent ≤ fare) ∧
    bandedFare fare 1000 = fare ∧ netFare fare 100 = 0 ∧ netFare fare 0 = fare := by
  unfold bandedFare netFare
  generalize fare * factor = n
  refine ⟨?_, ?_, rfl, fun _ => Nat.sub_le _ _, ?_, ?_, ?_⟩ <;> omega

/-! ### The product and the day type (R67, R68) -/

/-- An entry of a vector of options is among its entries as a list. -/
theorem mem_toList_iff {α : Type} {n : Nat} {v : Vector (Option α) n} {x : α} :
    some x ∈ v.toList ↔ ∃ j : Fin n, v[j] = some x := by
  rw [Vector.mem_toList_iff, Vector.mem_iff_getElem]
  exact ⟨fun ⟨j, hj, h⟩ => ⟨⟨j, hj⟩, h⟩, fun ⟨j, h⟩ => ⟨j, j.isLt, h⟩⟩

theorem Bank.mem_products_iff {b : Bank} {p : Product} :
    p ∈ b.products.toList.filterMap id ↔ ∃ n : Fin 64, b.products[n] = some p := by
  simp only [List.mem_filterMap, id_eq, exists_eq_right, mem_toList_iff]

theorem Bank.findProduct_eq_none {b : Bank} {code : Nat}
    (h : ∀ (n : Fin 64) (p : Product), b.products[n] = some p → p.code ≠ code) : b.findProduct code = none := by
  rw [Bank.findProduct, List.find?_eq_none]
  intro p hp
  obtain ⟨n, hn⟩ := Bank.mem_products_iff.mp hp
  simpa using h n p hn

/-- The one entry that holds a code is the one found (R57, R67). -/
theorem Bank.findProduct_eq_some {b : Bank} {code : Nat} {n : Fin 64} {p : Product} (hp : b.products[n] = some p)
    (hc : p.code = code) (only : ∀ (m : Fin 64) (q : Product), b.products[m] = some q → q.code = code → m = n) :
    b.findProduct code = some p := by
  cases hf : b.findProduct code with
  | none =>
    have hno := List.find?_eq_none.mp hf p (Bank.mem_products_iff.mpr ⟨n, hp⟩)
    simp [hc] at hno
  | some q =>
    obtain ⟨m, hm⟩ := Bank.mem_products_iff.mp (List.mem_of_find?_eq_some hf)
    have hmn : m = n := only m q hm (by simpa using List.find?_some hf)
    rw [← hm, hmn, hp]

theorem dayTypeOf_holiday {b : Bank} {n : Nat} (h : ∃ d : Fin 32, b.holidays[d] = some n) : dayTypeOf b n = .holiday :=
  if_pos (mem_toList_iff.mpr h)

theorem dayTypeOf_weekday {b : Bank} {n : Nat} (h : ∀ d : Fin 32, b.holidays[d] ≠ some n) :
    dayTypeOf b n = if (n + 5) % 7 = 5 then .saturday else if (n + 5) % 7 = 6 then .sunday else .weekday := by
  have hno : some n ∉ b.holidays.toList := fun hm => (mem_toList_iff.mp hm).elim h
  rw [dayTypeOf, if_neg hno]
  split <;> simp_all

/-- A day type that is HOLIDAY on a holiday, and else by the weekday, is the one of the day (R68). -/
theorem dayTypeOf_eq {b : Bank} {n : Nat} {dt : DayType} (hh : (∃ d : Fin 32, b.holidays[d] = some n) → dt = .holiday)
    (hw : (∀ d : Fin 32, b.holidays[d] ≠ some n) →
      dt = if (n + 5) % 7 = 5 then .saturday else if (n + 5) % 7 = 6 then .sunday else .weekday) : dayTypeOf b n = dt := by
  by_cases h : ∃ d : Fin 32, b.holidays[d] = some n
  · rw [dayTypeOf_holiday h, hh h]
  · rw [dayTypeOf_weekday (not_exists.mp h), hw (not_exists.mp h)]

theorem Carriers.include_iff {c : Carriers} {r : Carrier} :
    c.include r = true ↔ c = .both ∨ (c = .paper ∧ r = .paper) ∨ (c = .card ∧ r = .card) := by
  cases c <;> cases r <;> decide

/-! ### The sale (R66–R71) -/

theorem salePrice_active {s : State} {i : BankId} (h : s.tariff.active = some i) (code zones : Nat) (cls : RiderClass)
    (quantity : Nat) (carrier : Carrier) :
    salePrice s code zones cls quantity carrier = (s.tariff.bank i).salePrice i s.clock.heldDay
      (bandMinute s.clock.dateTime.minuteOfDay s.settings.boundary) code zones cls quantity carrier := by
  simp [salePrice, h]

section
variable {b : Bank} {i : BankId} {day minute code zones quantity : Nat} {cls : RiderClass} {carrier : Carrier} {p : Product}

/-- The discount group's percent of a class (R70). -/
def Bank.percentOf (b : Bank) (p : Product) (cls : RiderClass) : Nat :=
  (b.classes[(match cls with | .adult => 0 | .child => 1 | .senior => 2 | .concession => 3 : Fin 4)]).getD p.discountGroup.val 0

/-- What a product's rows allow of a sale before its cell is read (R67). -/
def Product.allows (p : Product) (carrier : Carrier) (cls : RiderClass) (zones : Nat) : Prop :=
  (p.carriers = .both ∨ (p.carriers = .paper ∧ carrier = .paper) ∨ (p.carriers = .card ∧ carrier = .card)) ∧
    p.classes.has cls = true ∧ 1 ≤ zones ∧ zones ≤ 8

theorem Bank.salePrice_unheld (h : b.findProduct code = none) :
    b.salePrice i day minute code zones cls quantity carrier = .refused .notOffered := by
  simp [Bank.salePrice, h]

theorem Bank.salePrice_notAllowed (hp : b.findProduct code = some p) (h : ¬ p.allows carrier cls zones) :
    b.salePrice i day minute code zones cls quantity carrier = .refused .notOffered := by
  simp only [Bank.salePrice, hp]
  by_cases hc : p.carriers.include carrier = true
  · by_cases hk : p.classes.has cls = true
    · have hz : ¬(1 ≤ zones ∧ zones ≤ 8) := fun hz => h ⟨Carriers.include_iff.mp hc, hk, hz⟩
      simp [hc, hk, hz]
    · simp [hc, hk]
  · simp [hc]

theorem Bank.salePrice_notSold (hp : b.findProduct code = some p) (ha : p.allows carrier cls zones)
    (hcell : (b.fares[p.fareRow]).getD (zones - 1) none = none) :
    b.salePrice i day minute code zones cls quantity carrier = .refused .notOffered := by
  obtain ⟨hc, hk, hz⟩ := ha
  simp only [Bank.salePrice, hp, Carriers.include_iff.mpr hc, hk, if_pos hz, hcell]
  rfl

theorem Bank.salePrice_qtyLimit (hp : b.findProduct code = some p) (ha : p.allows carrier cls zones) {base : Nat}
    (hcell : (b.fares[p.fareRow]).getD (zones - 1) none = some base) (hq : ¬(1 ≤ quantity ∧ quantity ≤ 9 ∧ quantity ≤ p.maxQuantity)) :
    b.salePrice i day minute code zones cls quantity carrier = .refused .qtyLimit := by
  obtain ⟨hc, hk, hz⟩ := ha
  simp only [Bank.salePrice, hp, Carriers.include_iff.mpr hc, hk, if_pos hz, hcell, if_pos hq]
  rfl

/-- A sale that passes its checks up to max sale (R68–R71). -/
theorem Bank.salePrice_line (hp : b.findProduct code = some p) (ha : p.allows carrier cls zones) {base : Nat}
    (hcell : (b.fares[p.fareRow]).getD (zones - 1) none = some base) (hq : 1 ≤ quantity ∧ quantity ≤ 9 ∧ quantity ≤ p.maxQuantity)
    {h : Header} {dt : DayType} {plan : List Band} {band : Band} (hh : b.header = some h) (hday : dayTypeOf b day = dt)
    (hplan : b.plans[dt.index] = some plan)
    (hband : bandOf plan minute = some band) {line : Nat}
    (hline : line = netFare (bandedFare base ((b.bands[band.cls]).getD p.bandGroup.val 0)) (b.percentOf p cls) * quantity) :
    b.salePrice i day minute code zones cls quantity carrier =
      if h.maxSale < line then .refused .overLimit
      else .price { due := roundDue line h.step h.maxSale, bank := i, detail := .sale p.snapshot dt band.cls } := by
  obtain ⟨hc, hk, hz⟩ := ha
  subst hday hline
  simp only [Bank.salePrice, hp, Carriers.include_iff.mpr hc, hk, if_pos hz, hcell, if_neg (not_not.mpr hq), hh, hplan, Option.bind_some, hband]
  cases cls <;> rfl

end

/-- Settles O29: the bands, the roundings, and the sale's checks in the order of Table 4-7. -/
theorem bandIsLastStartReached : Obligations.BandIsLastStartReached := by
  refine ⟨fun plan m b => bandOf_eq_some_iff, fun b rest m hb => bandOf_isSome hb rest m, fun minute boundary => bandMinute_spec,
    fares_round_half_up, fun s i code zones quantity cls carrier => ⟨fun hn => by simp [salePrice, hn], fun ha => ?_⟩⟩
  simp only [salePrice_active ha]
  refine ⟨fun hno => Bank.salePrice_unheld (Bank.findProduct_eq_none hno), fun n p hn hcode only => ?_⟩
  have hp := Bank.findProduct_eq_some hn hcode only
  refine ⟨Bank.salePrice_notAllowed hp, fun hall => ?_⟩
  refine ⟨Bank.salePrice_notSold hp hall, fun base hcell => ⟨fun hq => ?_, ?_⟩⟩
  · exact Bank.salePrice_qtyLimit hp hall hcell (by omega)
  · intro hq1 hq9 hqp h dayType plan band hh hhol hweek hplan hband
    have hplan' : (s.tariff.bank i).plans[dayType.index] = some plan := by
      rw [← hplan]; cases dayType <;> rfl
    rw [Bank.salePrice_line (minute := bandMinute s.clock.dateTime.minuteOfDay s.settings.boundary) hp hall hcell ⟨hq1, hq9, hqp⟩ hh
      (dayTypeOf_eq hhol hweek) hplan' hband rfl]
    exact ⟨fun hover => if_pos hover, fun hfit => if_neg (Nat.not_lt.mpr hfit)⟩

end Sys2Proof.Machine
end

section
/-! SUPPORT. The banked writes (R55 to R59): what each unit's fields give, and the refusals in their order. -/

namespace Sys2Proof.Machine

/-! ### A banked write that is heard (R55) -/

theorem sized_eq {α : Type} {l : List α} {n : Nat} (h : l.length = n) (hd : Handler) : sized l n hd = hd := if_pos h

theorem bankOf_eq_none {letter : Byte} (ha : letter ≠ 0x41#8) (hb : letter ≠ 0x42#8) : bankOf letter = none := by
  simp [bankOf, ha, hb]

section
variable {letter : Byte} {s : State} (hs : s.hears)
include hs

/-- BAD_FIELD for a letter of no bank. -/
theorem bankedWrite_noBank (hl : bankOf letter = none) (f : Bank → Except Status Bank) :
    depotRequest 0x42 (bankedWrite letter f) s = (frameForStation s).withReply 0x42 .badField [] := by
  simp [depotRequest_heard hs, bankedWrite, hl, refuse]

variable {i : BankId} (hl : bankOf letter = some i)
include hl

/-- ACTIVE_BANK for the ACTIVE bank. -/
theorem bankedWrite_activeBank (ha : (s.tariff.bank i).state = .active) (f : Bank → Except Status Bank) :
    depotRequest 0x42 (bankedWrite letter f) s = (frameForStation s).withReply 0x42 .activeBank [] := by
  simp [depotRequest_heard hs, bankedWrite, hl, refuse, ha]

variable (ha : (s.tariff.bank i).state ≠ .active)
include ha

/-- SWITCH_PENDING while a switch is scheduled. -/
theorem bankedWrite_switchPending (hw : s.tariff.switch.isSome = true) (f : Bank → Except Status Bank) :
    depotRequest 0x42 (bankedWrite letter f) s = (frameForStation s).withReply 0x42 .switchPending [] := by
  simp [depotRequest_heard hs, bankedWrite, hl, refuse, ha, hw]

variable (hw : s.tariff.switch = none) {f : Bank → Except Status Bank}
include hw

/-- The refusal that the judgement of index and unit gives. -/
theorem bankedWrite_refused {st : Status} (hf : f (s.tariff.bank i) = .error st) :
    depotRequest 0x42 (bankedWrite letter f) s = (frameForStation s).withReply 0x42 st [] := by
  simp [depotRequest_heard hs, bankedWrite, hl, refuse, ha, hw, hf]

/-- The unit that the judgement gives replaces the old one, and the bank is EDITING. -/
theorem bankedWrite_taken {b : Bank} (hf : f (s.tariff.bank i) = .ok b) :
    depotRequest 0x42 (bankedWrite letter f) s = ((frameForStation s).editBank i b).withReply 0x42 .ok [] := by
  simp [depotRequest_heard hs, bankedWrite, hl, taken, ha, hw, hf, State.editBank]

end

/-! ### Fields (R190) -/

theorem finOf_eq_some_iff {n m : Nat} {i : Fin n} : finOf n m = some i ↔ m = i.val := by
  refine ⟨fun h => ?_, finOf_eq⟩
  unfold finOf at h
  split at h
  · cases h; rfl
  · cases h

theorem finOf_eq_none {n m : Nat} (h : n ≤ m) : finOf n m = none := dif_neg (Nat.not_lt.mpr h)

theorem boolOf_eq_none {b : Byte} (h0 : b ≠ 0) (h1 : b ≠ 1) : boolOf b = none := by
  rw [boolOf, if_neg h0, if_neg h1]

/-- A text field holds its characters, then zeros to its width (R190, R192). -/
theorem textOf_eq_some_iff {l t : List Byte} :
    textOf l = some t ↔
      (∀ c ∈ t, 0x20 ≤ c.toNat ∧ c.toNat ≤ 0x7E) ∧ l = t ++ List.replicate (l.length - t.length) 0 := by
  simp only [textOf, Option.ite_none_right_eq_some, Option.some.injEq]
  constructor
  · rintro ⟨⟨hzero, hprint⟩, rfl⟩
    refine ⟨by simpa [printable] using hprint, ?_⟩
    have hrest : l.drop (l.takeWhile (fun b => decide (b ≠ 0))).length =
        List.replicate (l.length - (l.takeWhile (fun b => decide (b ≠ 0))).length) 0 :=
      List.eq_replicate_iff.mpr ⟨List.length_drop, by simpa using hzero⟩
    rw [← hrest, List.prefix_iff_eq_append.mp (List.takeWhile_prefix _)]
  · rintro ⟨hprint, hl⟩
    have hnonzero : ∀ c ∈ t, decide (c ≠ 0) = true := by
      rintro c hc
      rw [decide_eq_true_eq]
      rintro rfl
      exact absurd (hprint 0 hc).1 (by decide)
    have htake : l.takeWhile (fun b => decide (b ≠ 0)) = t := by
      rw [hl, List.takeWhile_append_of_pos hnonzero, List.takeWhile_replicate, if_neg (by decide), List.append_nil]
    rw [htake]
    refine ⟨⟨?_, by simpa [printable] using hprint⟩, rfl⟩
    rw [hl, List.drop_left]
    simp

/-- A list read element by element: every element is read. -/
theorem mapM_eq_some_iff {α β : Type} {f : α → Option β} {l : List α} {r : List β} :
    l.mapM f = some r ↔ l.map f = r.map some := by
  induction l generalizing r with
  | nil => cases r <;> simp
  | cons a l ih =>
    cases r with
    | nil => simp [List.mapM_cons, Option.bind_eq_some_iff]
    | cons b r => simp [List.mapM_cons, Option.bind_eq_some_iff, ← ih]

theorem mapM_eq_none {α β : Type} {f : α → Option β} {l : List α} {a : α} (ha : a ∈ l) (hf : f a = none) : l.mapM f = none := by
  cases hl : l.mapM f with
  | none => rfl
  | some r =>
    have hmem : f a ∈ r.map some := mapM_eq_some_iff.mp hl ▸ List.mem_map_of_mem ha
    simp [hf] at hmem

/-! ### HEADER units (R56) -/

theorem topupAmount_iff {n : Nat} : topupAmount n ↔ (100 ≤ n ∧ n ≤ 50000) ∧ n % 100 = 0 := and_assoc.symm

theorem headerOf_eq_some_iff {u : HeaderUnit} {h : Header} : headerOf u = some h ↔ h.IsGivenBy u := by
  simp only [headerOf, Option.ite_none_right_eq_some, Option.some.injEq, within, Bool.and_eq_true, Bool.or_eq_true,
    decide_eq_true_eq, List.all_eq_true, Header.IsGivenBy, topupAmount_iff]
  constructor
  · rintro ⟨⟨⟨⟨⟨⟨⟨⟨⟨hset, hstep⟩, hsale⟩, hfee⟩, hmin⟩, hmax⟩, hcard⟩, hlimit⟩, hden⟩, rfl⟩
    exact ⟨hset, rfl, hstep, hsale, hfee, hmin, hmax, hcard, hlimit, List.forall_mem_map.mpr hden⟩
  · rintro ⟨hset, rfl, hstep, hsale, hfee, hmin, hmax, hcard, hlimit, hden⟩
    exact ⟨⟨⟨⟨⟨⟨⟨⟨⟨hset, hstep⟩, hsale⟩, hfee⟩, hmin⟩, hmax⟩, hcard⟩, hlimit⟩, List.forall_mem_map.mp hden⟩, rfl⟩

theorem headerOf_eq_none {u : HeaderUnit} (h : ∀ hd : Header, ¬ hd.IsGivenBy u) : headerOf u = none :=
  Option.eq_none_iff_forall_ne_some.mpr fun hd hh => h hd (headerOf_eq_some_iff.mp hh)

/-! ### PRODUCT units (R57) -/

theorem productKindOf_eq_some_iff {b : Byte} {k : ProductKind} :
    productKindOf b = some k ↔ (b = 0 ∧ k = .single) ∨ (b = 1 ∧ k = .pass) := by
  unfold productKindOf
  split
  · next h => subst h; cases k <;> simp
  · split
    · next h => subst h; cases k <;> simp
    · simp_all

theorem carriersOf_eq_some_iff {b : Byte} {c : Carriers} :
    carriersOf b = some c ↔ (b = 0 ∧ c = .paper) ∨ (b = 1 ∧ c = .card) ∨ (b = 2 ∧ c = .both) := by
  unfold carriersOf
  split
  · next h => subst h; cases c <;> simp
  · split
    · next h => subst h; cases c <;> simp
    · split
      · next h => subst h; cases c <;> simp
      · simp_all

theorem classSetOf_eq_some_iff {b : Byte} {c : ClassSet} :
    classSetOf b = some c ↔ b.toNat < 16 ∧ c = { adult := b.getLsbD 0, child := b.getLsbD 1, senior := b.getLsbD 2,
                                                   concession := b.getLsbD 3 } := by
  rw [classSetOf, Option.ite_none_right_eq_some, Option.some.injEq, eq_comm (b := c)]

/-- A PRODUCT unit that names its entry valid gives the entry of its fields, where all are in range (R57). -/
theorem productOf_eq_some_iff {u : ProductUnit} {p : Product} (hlen : u.name.length = 20) (hv : u.valid = 1) :
    productOf u = some p ↔ p.IsGivenBy u := by
  have htake : u.name.take 20 = u.name := List.take_of_length_le hlen.le
  constructor
  · intro h
    unfold productOf at h
    split at h
    · next name kind carriers classes hname hkind hcarriers hclasses =>
      split at h
      · next row band discount template hrow hband hdiscount htemplate =>
        rw [Option.ite_none_right_eq_some, Option.some.injEq] at h
        obtain ⟨hok, rfl⟩ := h
        simp only [Bool.and_eq_true, within, decide_eq_true_eq] at hok
        obtain ⟨⟨⟨hcode, hne⟩, hqty⟩, hdays⟩ := hok
        obtain ⟨hchars, hpad⟩ := textOf_eq_some_iff.mp hname
        rw [htake, hlen] at hpad
        have hkinds : (u.kind = 0 ∧ kind = .single ∧ u.days.toNat = 0) ∨
            (u.kind = 1 ∧ kind = .pass ∧ 1 ≤ u.days.toNat ∧ u.days.toNat ≤ 31) := by
          obtain ⟨h0, rfl⟩ | ⟨h1, rfl⟩ := productKindOf_eq_some_iff.mp hkind
          · exact .inl ⟨h0, rfl, of_decide_eq_true hdays⟩
          · exact .inr ⟨h1, rfl, of_decide_eq_true hdays⟩
        exact ⟨hv, ⟨rfl, hcode⟩, ⟨hne, hchars, hpad⟩, rfl, hkinds, carriersOf_eq_some_iff.mp hcarriers, finOf_eq_some_iff.mp hrow,
          finOf_eq_some_iff.mp hband, finOf_eq_some_iff.mp hdiscount, finOf_eq_some_iff.mp htemplate,
          classSetOf_eq_some_iff.mp hclasses, rfl, hqty⟩
      · cases h
    · cases h
  · rintro ⟨-, ⟨hcode, hcodes⟩, ⟨hne, hchars, hpad⟩, hdays, hkinds, hcarriers, hrow, hband, hdiscount, htemplate, hclasses, hqty, hqtys⟩
    have hname : textOf (u.name.take 20) = some p.name := by
      rw [htake, textOf_eq_some_iff, hlen]
      exact ⟨hchars, hpad⟩
    have hkind : productKindOf u.kind = some p.kind :=
      productKindOf_eq_some_iff.mpr (hkinds.imp (fun h => ⟨h.1, h.2.1⟩) (fun h => ⟨h.1, h.2.1⟩))
    simp only [productOf, hname, hkind, carriersOf_eq_some_iff.mpr hcarriers, classSetOf_eq_some_iff.mpr hclasses,
      finOf_eq hrow, finOf_eq hband, finOf_eq hdiscount, finOf_eq htemplate, ← hcode, ← hdays, ← hqty]
    refine if_pos ?_
    rw [Bool.and_eq_true]
    refine ⟨by simp [within, hcodes, hne, hqtys], ?_⟩
    obtain ⟨-, hk, hd⟩ | ⟨-, hk, hd⟩ := hkinds <;> rw [hk] <;> exact decide_eq_true hd

theorem productOf_eq_none {u : ProductUnit} (hlen : u.name.length = 20) (hv : u.valid = 1) (h : ∀ p : Product, ¬ p.IsGivenBy u) :
    productOf u = none :=
  Option.eq_none_iff_forall_ne_some.mpr fun p hp => h p ((productOf_eq_some_iff hlen hv).mp hp)

/-! ### DAYPLAN units (R59) -/

theorem bandSlotOf_eq_some_iff {x : BandSlot} {b : Band} :
    bandSlotOf x = some b ↔ (b.start = x.start.toNat ∧ b.cls.val = x.cls.toNat) ∧ b.start ≤ 1439 := by
  simp only [bandSlotOf, Option.ite_none_right_eq_some, Option.map_eq_some_iff, finOf_eq_some_iff]
  constructor
  · rintro ⟨hle, c, hc, rfl⟩
    exact ⟨⟨rfl, hc.symm⟩, hle⟩
  · rintro ⟨⟨hstart, hcls⟩, hle⟩
    exact ⟨hstart ▸ hle, b.cls, hcls.symm, by rw [← hstart]⟩

theorem mapM_bandSlotOf_iff {xs : List BandSlot} {l : List Band} :
    xs.mapM bandSlotOf = some l ↔
      l.map (fun b => (b.start, b.cls.val)) = xs.map (fun x => (x.start.toNat, x.cls.toNat)) ∧ ∀ b ∈ l, b.start ≤ 1439 := by
  rw [mapM_eq_some_iff]
  induction xs generalizing l with
  | nil => cases l <;> simp
  | cons x xs ih =>
    cases l with
    | nil => simp
    | cons b l =>
      simp only [List.map_cons, List.cons.injEq, Prod.mk.injEq, List.forall_mem_cons, ih, bandSlotOf_eq_some_iff]
      tauto

theorem ascending_iff : ∀ l : List Band, ascending l = true ↔ l.Pairwise (fun a b => a.start < b.start)
  | [] => by simp [ascending]
  | [x] => by simp [ascending]
  | x :: y :: l => by
    rw [ascending, Bool.and_eq_true, decide_eq_true_eq, ascending_iff (y :: l), List.pairwise_cons (a := x)]
    refine and_congr_left fun hy => ⟨fun hxy => ?_, fun hall => hall y List.mem_cons_self⟩
    have hafter := (List.pairwise_cons.mp hy).1
    exact List.forall_mem_cons.mpr ⟨hxy, fun c hc => hxy.trans (hafter c hc)⟩

theorem planOf_eq_some_iff {u : DayplanUnit} {plan : List Band} : planOf u = some plan ↔ PlanIsGivenBy plan u := by
  have hcount : within 1 6 u.count.toNat = true ↔ 1 ≤ u.count.toNat ∧ u.count.toNat ≤ 6 := decide_eq_true_iff
  constructor
  · intro h
    unfold planOf at h
    split at h
    · next hc =>
      split at h
      · next l hl =>
        split at h
        · next hasc =>
          cases h
          obtain ⟨hbands, hrange⟩ := mapM_bandSlotOf_iff.mp hl
          exact ⟨hcount.mp hc, hbands, hrange, (ascending_iff _).mp hasc⟩
        · cases h
      · cases h
    · cases h
  · rintro ⟨hc, hbands, hrange, hasc⟩
    rw [planOf, if_pos (hcount.mpr hc), mapM_bandSlotOf_iff.mpr ⟨hbands, hrange⟩]
    exact if_pos ((ascending_iff plan).mpr hasc)

theorem planOf_eq_none {u : DayplanUnit} (h : ∀ plan, ¬ PlanIsGivenBy plan u) : planOf u = none :=
  Option.eq_none_iff_forall_ne_some.mpr fun plan hp => h plan (planOf_eq_some_iff.mp hp)

/-! ### FARE, BAND, CLASS and HOLIDAY units (R58, R59) -/

theorem fareCells_inRange {cells : List Half} (h : ∀ c ∈ cells, c = 0xFFFF#16 ∨ c.toNat ≤ 60000) :
    cells.mapM fareCellOf = some (cells.map (fun c => if c = 0xFFFF#16 then none else some c.toNat)) := by
  rw [mapM_eq_some_iff, List.map_map]
  refine List.map_congr_left fun c hc => ?_
  by_cases hn : c = 0xFFFF#16
  · simp [fareCellOf, hn]
  · simp [fareCellOf, hn, (h c hc).resolve_left hn]

theorem fareCells_outOfRange {cells : List Half} (h : ∃ c ∈ cells, c ≠ 0xFFFF#16 ∧ 60000 < c.toNat) :
    cells.mapM fareCellOf = none := by
  obtain ⟨c, hc, hn, hbig⟩ := h
  exact mapM_eq_none hc (by rw [fareCellOf, if_neg hn, if_neg (Nat.not_le.mpr hbig)])

theorem factors_outOfRange {factors : List Half} (h : ∃ f ∈ factors, f.toNat < 500 ∨ 2000 < f.toNat) :
    factors.all (fun f => within 500 2000 f.toNat) = false := by
  obtain ⟨f, hf, hout⟩ := h
  exact List.all_eq_false.mpr ⟨f, hf, by simp only [within, decide_eq_true_eq]; omega⟩

theorem percents_outOfRange {percents : List Byte} (h : ∃ p ∈ percents, 100 < p.toNat) :
    percents.all (fun p => decide (p.toNat ≤ 100)) = false := by
  obtain ⟨p, hp, hout⟩ := h
  exact List.all_eq_false.mpr ⟨p, hp, by simpa using hout⟩

/-! ### The code of a product (R57) -/

/-- Another valid entry holds the code (R57). -/
theorem codeTaken_iff {b : Bank} {n : Fin 64} {code : Nat} :
    codeTaken b n code = true ↔ ∃ (m : Fin 64) (q : Product), m ≠ n ∧ b.products[m] = some q ∧ q.code = code := by
  have hset : ∀ (m : Fin 64) (q : Product), (b.products.set n none)[m] = some q ↔ m ≠ n ∧ b.products[m] = some q := by
    intro m q
    by_cases h : m = n
    · simp [h]
    · have hval : n.val ≠ m.val := fun e => h (Fin.ext e.symm)
      simp [h, hval]
  rw [codeTaken, List.any_eq_true]
  constructor
  · rintro ⟨x, hx, hcode⟩
    cases x with
    | none => cases hcode
    | some q =>
      obtain ⟨m, hm⟩ := mem_toList_iff.mp hx
      obtain ⟨hne, hq⟩ := (hset m q).mp hm
      exact ⟨m, q, hne, hq, of_decide_eq_true hcode⟩
  · rintro ⟨m, q, hne, hq, hcode⟩
    exact ⟨some q, mem_toList_iff.mpr ⟨m, (hset m q).mpr ⟨hne, hq⟩⟩, decide_eq_true hcode⟩

theorem codeTaken_eq_false {b : Bank} {n : Fin 64} {code : Nat}
    (h : ∀ (m : Fin 64) (q : Product), m ≠ n → b.products[m] = some q → q.code ≠ code) : codeTaken b n code = false := by
  rw [Bool.eq_false_iff, Ne, codeTaken_iff]
  rintro ⟨m, q, hne, hq, hcode⟩
  exact h m q hne hq hcode

/-! ### The seven writes (R55–R59) -/

/-- A request of one of the seven rows is a banked write at its letter, where its list field has its length. -/
theorem exec_bankedWrite {c : Instr} {letter index : Byte}
    (h : (∃ u : HeaderUnit, u.denominations.length = 8 ∧ c = .tableWriteHeader letter u) ∨
      (∃ u : ProductUnit, u.name.length = 20 ∧ c = .tableWriteProduct letter index u) ∨
      (∃ cells : List Half, cells.length = 8 ∧ c = .tableWriteFare letter index cells) ∨
      (∃ factors : List Half, factors.length = 4 ∧ c = .tableWriteBand letter index factors) ∨
      (∃ u : DayplanUnit, u.slots.length = 6 ∧ c = .tableWriteDayplan letter index u) ∨
      (∃ percents : List Byte, percents.length = 4 ∧ c = .tableWriteClass letter index percents) ∨
      (∃ u : HolidayUnit, c = .tableWriteHoliday letter index u)) (s : State) :
    ∃ f, exec c s = .next (depotRequest 0x42 (bankedWrite letter f) s) := by
  have sized_next : ∀ {α : Type} {l : List α} {n : Nat} (f : Bank → Except Status Bank), l.length = n →
      (.next (depotRequest 0x42 (sized l n (bankedWrite letter f)) s) : Host.Outcome State Fault Refusal) =
        .next (depotRequest 0x42 (bankedWrite letter f) s) := fun f hlen => by rw [sized_eq hlen]
  obtain ⟨u, hlen, rfl⟩ | ⟨u, hlen, rfl⟩ | ⟨l, hlen, rfl⟩ | ⟨l, hlen, rfl⟩ | ⟨u, hlen, rfl⟩ | ⟨l, hlen, rfl⟩ | ⟨u, rfl⟩ := h
  case inr.inr.inr.inr.inr.inr => exact ⟨_, rfl⟩
  all_goals exact ⟨_, sized_next _ hlen⟩

section
variable {letter : Byte} {i : BankId} {s : State} (hs : s.hears) (hl : bankOf letter = some i)
  (ha : (s.tariff.bank i).state ≠ .active) (hw : s.tariff.switch = none) {α : Type} {l : List α} {len : Nat} (hlen : l.length = len)
  {f : Bank → Except Status Bank}
include hs hl ha hw hlen

/-- A write with a list field of its length is taken as its judgement says. -/
theorem sizedWrite_taken {b : Bank} (hf : f (s.tariff.bank i) = .ok b) :
    depotRequest 0x42 (sized l len (bankedWrite letter f)) s = ((frameForStation s).editBank i b).withReply 0x42 .ok [] := by
  rw [sized_eq hlen, bankedWrite_taken hs hl ha hw hf]

/-- A write with a list field of its length is refused as its judgement says. -/
theorem sizedWrite_refused {st : Status} (hf : f (s.tariff.bank i) = .error st) :
    depotRequest 0x42 (sized l len (bankedWrite letter f)) s = (frameForStation s).withReply 0x42 st [] := by
  rw [sized_eq hlen, bankedWrite_refused hs hl ha hw hf]

end

/-- Settles O31: each unit's fields are judged as R56 to R59 say, behind the letter, the bank's state and the switch. -/
theorem bankedWritesJudgedAndTaken : Obligations.BankedWritesJudgedAndTaken := by
  have answered : ∀ {a b : State}, a = b → (Host.Outcome.next a : Host.Outcome State Fault Refusal) = .next b := congrArg _
  refine ⟨fun letter index i s hs hl ha hw => ⟨?_, ?_, ?_, ?_, ?_, ?_, ?_, ?_, ?_, ?_, ?_, ?_, ?_, ?_, ?_, ?_⟩,
    fun c letter index s hs hc => ?_⟩
  · exact fun u h hlen hu => answered (sizedWrite_taken hs hl ha hw hlen (by simp [headerOf_eq_some_iff.mpr hu]))
  · intro u n p hn hlen hu only
    have hp := (productOf_eq_some_iff hlen hu.1).mpr hu
    exact answered (sizedWrite_taken hs hl ha hw hlen (by simp [finOf_eq hn, boolOf, hu.1, hp, codeTaken_eq_false only]))
  · exact fun u n hn hlen hv => answered (sizedWrite_taken hs hl ha hw hlen (by simp [finOf_eq hn, boolOf, hv]))
  · exact fun cells n hn hlen hr => answered (sizedWrite_taken hs hl ha hw hlen (by simp [finOf_eq hn, fareCells_inRange hr]))
  · exact fun factors n hn hlen hr => answered (sizedWrite_taken hs hl ha hw hlen (by simpa [finOf_eq hn, within] using hr))
  · exact fun u n plan hn hlen hu => answered (sizedWrite_taken hs hl ha hw hlen (by simp [finOf_eq hn, planOf_eq_some_iff.mpr hu]))
  · exact fun percents n hn hlen hr => answered (sizedWrite_taken hs hl ha hw hlen (by simpa [finOf_eq hn] using hr))
  · exact fun u n hn hv hd => answered (bankedWrite_taken hs hl ha hw (by simp [finOf_eq hn, boolOf, hv, Config.lastServiceDay, hd]))
  · exact fun u n hn hv => answered (bankedWrite_taken hs hl ha hw (by simp [finOf_eq hn, boolOf, hv]))
  · exact fun u hlen hno => answered (sizedWrite_refused hs hl ha hw hlen (by simp [headerOf_eq_none hno]))
  · refine fun u hlen => ⟨fun hout => answered (sizedWrite_refused hs hl ha hw hlen (by simp [finOf_eq_none hout])),
      fun n hn => ⟨fun h0 hno => answered (sizedWrite_refused hs hl ha hw hlen ?_), fun p q m hu hne hq hcode => ?_⟩⟩
    · by_cases h1 : u.valid = 1
      · simp [finOf_eq hn, boolOf, h1, productOf_eq_none hlen h1 hno]
      · simp [finOf_eq hn, boolOf_eq_none h0 h1]
    · have htaken : codeTaken (s.tariff.bank i) n p.code = true := codeTaken_iff.mpr ⟨m, q, hne, hq, hcode⟩
      have hp := (productOf_eq_some_iff hlen hu.1).mpr hu
      exact answered (sizedWrite_refused hs hl ha hw hlen (by simp [finOf_eq hn, boolOf, hu.1, hp, htaken]))
  · refine fun cells hlen => ⟨fun hout => answered (sizedWrite_refused hs hl ha hw hlen (by simp [finOf_eq_none hout])),
      fun hin hr => answered (sizedWrite_refused hs hl ha hw hlen ?_)⟩
    simp [finOf_eq (i := ⟨_, hin⟩) rfl, fareCells_outOfRange hr]
  · refine fun factors hlen => ⟨fun hout => answered (sizedWrite_refused hs hl ha hw hlen (by simp [finOf_eq_none hout])),
      fun hin hr => answered (sizedWrite_refused hs hl ha hw hlen ?_)⟩
    simp [finOf_eq (i := ⟨_, hin⟩) rfl, factors_outOfRange hr]
  · refine fun u hlen => ⟨fun hout => answered (sizedWrite_refused hs hl ha hw hlen (by simp [finOf_eq_none hout])),
      fun hin hno => answered (sizedWrite_refused hs hl ha hw hlen ?_)⟩
    simp [finOf_eq (i := ⟨_, hin⟩) rfl, planOf_eq_none hno]
  · refine fun percents hlen => ⟨fun hout => answered (sizedWrite_refused hs hl ha hw hlen (by simp [finOf_eq_none hout])),
      fun hin hr => answered (sizedWrite_refused hs hl ha hw hlen ?_)⟩
    simp [finOf_eq (i := ⟨_, hin⟩) rfl, percents_outOfRange hr]
  · refine fun u => ⟨fun hout => answered (bankedWrite_refused hs hl ha hw (by simp [finOf_eq_none hout])),
      fun hin h0 hr => answered (bankedWrite_refused hs hl ha hw ?_)⟩
    by_cases h1 : u.valid = 1
    · simp [finOf_eq (i := ⟨_, hin⟩) rfl, boolOf, h1, Config.lastServiceDay, Nat.not_le.mpr (hr h1)]
    · simp [finOf_eq (i := ⟨_, hin⟩) rfl, boolOf_eq_none h0 h1]
  · obtain ⟨f, hf⟩ := exec_bankedWrite hc s
    refine ⟨fun hA hB => hf.trans (answered (bankedWrite_noBank hs (bankOf_eq_none hA hB) f)), fun i hl => ?_⟩
    subst hl
    exact ⟨fun ha => hf.trans (answered (bankedWrite_activeBank hs (bankOf_letter i) ha f)),
      fun ha hw => hf.trans (answered (bankedWrite_switchPending hs (bankOf_letter i) ha hw f))⟩

end Sys2Proof.Machine
end

section
/-! SUPPORT. The bank switch (R61 to R64): the checks of Table 4-5, one by one in their order, and the making of a switch. -/

namespace Sys2Proof.Machine

/-! ### The checks of a bank, in their order (R63, Table 4-5) -/

/-- The first entry of a vector that fails, where those before it pass. -/
theorem firstFailing_first {α : Type} {fails : α → Bool} {l : List α} {n : Nat} (hn : n < l.length) (hf : fails l[n] = true)
    (before : ∀ (m : Nat) (hm : m < n), fails l[m] = false) (i : Nat) : firstFailing fails i l = some (i + n) := by
  induction l generalizing i n with
  | nil => cases hn
  | cons x xs ih =>
    cases n with
    | zero => exact if_pos hf
    | succ n =>
      have hx : fails x = false := before 0 n.succ_pos
      rw [firstFailing, hx, if_neg Bool.false_ne_true,
        ih (by simpa using hn) hf (fun m hm => before (m + 1) (Nat.succ_lt_succ hm)), Nat.add_assoc, Nat.add_comm 1 n]

theorem firstFailing_none {α : Type} {fails : α → Bool} {l : List α} (h : ∀ x ∈ l, fails x = false) (i : Nat) :
    firstFailing fails i l = none := by
  induction l generalizing i with
  | nil => rfl
  | cons x xs ih =>
    rw [firstFailing, h x List.mem_cons_self, if_neg Bool.false_ne_true, ih fun y hy => h y (List.mem_cons_of_mem x hy)]

section
variable {α : Type} {k : Nat} {v : Vector α k} {fails : α → Bool} {Sound : Fin k → Prop} (h : ∀ n, fails v[n] = true ↔ ¬ Sound n)
include h

/-- The index of the first entry of a table that is not sound. -/
theorem firstFailing_table {n : Fin k} (hn : ¬ Sound n) (before : ∀ m, m < n → Sound m) :
    firstFailing fails 0 v.toList = some n.val := by
  have hat : fails v.toList[n.val] = true := (h n).mpr hn
  rw [firstFailing_first (by simp) hat, Nat.zero_add]
  intro m hm
  exact Bool.eq_false_iff.mpr fun hf => (h ⟨m, hm.trans n.isLt⟩).mp hf (before _ hm)

/-- No entry of a table is found where all are sound. -/
theorem firstFailing_soundTable (hall : ∀ n, Sound n) : firstFailing fails 0 v.toList = none := by
  refine firstFailing_none (fun x hx => ?_) 0
  obtain ⟨n, hn, rfl⟩ := Vector.mem_iff_getElem.mp (Vector.mem_toList_iff.mp hx)
  exact Bool.eq_false_iff.mpr fun hf => (h ⟨n, hn⟩).mp hf (hall _)

end

/-! ### Each check (Table 4-5) -/

theorem checkHeader_fails {b : Bank} (h : ∀ hd, b.header = some hd → ¬ hd.Sound) : checkHeader b = some (7, 0) := by
  unfold checkHeader
  split
  · rfl
  · next hd hh =>
    have hno := h hd hh
    unfold Header.Sound at hno
    split
    · rfl
    · split
      · rfl
      · split
        · rfl
        · omega

theorem checkHeader_passes {b : Bank} {hd : Header} (hh : b.header = some hd) (h : hd.Sound) : checkHeader b = none := by
  obtain ⟨hstep, hfee, hspan⟩ := h
  simp [checkHeader, hh, Nat.not_lt.mpr hstep, hfee, Nat.not_lt.mpr hspan]

theorem templateHasLine_iff {s : State} {t : Fin 16} :
    s.templateHasLine t = true ↔ ∃ i : Fin 24, ((s.templates[t])[i]).isSome = true := by
  rw [State.templateHasLine, List.any_eq_true]
  constructor
  · rintro ⟨x, hx, hsome⟩
    obtain ⟨n, hn, rfl⟩ := Vector.mem_iff_getElem.mp (Vector.mem_toList_iff.mp hx)
    exact ⟨⟨n, hn⟩, hsome⟩
  · rintro ⟨n, hsome⟩
    exact ⟨_, Vector.mem_toList_iff.mpr (Vector.getElem_mem n.isLt), hsome⟩

theorem productFails_iff {s : State} {p : Product} :
    productFails s p = true ↔ p.kind = .pass ∧ ((p.carriers ≠ .paper ∧ p.maxQuantity ≠ 1) ∨
      (p.carriers ≠ .card ∧ ¬ ∃ i : Fin 24, ((s.templates[p.template])[i]).isSome = true)) := by
  have hcard : p.carriers.include .card = true ↔ p.carriers ≠ .paper := by cases p.carriers <;> decide
  have hpaper : p.carriers.include .paper = true ↔ p.carriers ≠ .card := by cases p.carriers <;> decide
  rw [← templateHasLine_iff, productFails, Bool.and_eq_true, Bool.or_eq_true, Bool.and_eq_true, Bool.and_eq_true, hcard, hpaper,
    decide_eq_true_eq, decide_eq_true_eq, Bool.not_eq_true', Bool.not_eq_true]

/-- Checks 5 and 6, for any reading of a product entry that takes the checks of a valid one. -/
theorem product_check_iff {s : State} {b : Bank} {fails : Option Product → Bool} (hnone : fails none = false)
    (hsome : ∀ p, fails (some p) = productFails s p) (n : Fin 64) : fails b.products[n] = true ↔ ¬ b.ProductSound s n := by
  cases hp : b.products[n] with
  | none => simp [hnone, Bank.ProductSound, hp]
  | some p =>
    rw [hsome, productFails_iff]
    constructor
    · rintro ⟨hk, h⟩ hsound
      obtain ⟨hq, ht⟩ := hsound p hp hk
      obtain ⟨hc, hne⟩ | ⟨hc, hno⟩ := h
      · exact hne (hq hc)
      · exact hno (ht hc)
    · intro h
      by_contra hno
      refine h fun q hq hk => ?_
      cases hp.symm.trans hq
      exact ⟨fun hc => by_contra fun hne => hno ⟨hk, .inl ⟨hc, hne⟩⟩, fun hc => by_contra fun hne => hno ⟨hk, .inr ⟨hc, hne⟩⟩⟩

/-- Checks 7 and 8. -/
theorem plan_check_iff {b : Bank} (d : Fin 4) : planFails b.plans[d] = true ↔ ¬ b.PlanSound d := by
  unfold Bank.PlanSound
  match hp : b.plans[d] with
  | none => simp [planFails]
  | some [] => simp [planFails]
  | some (x :: xs) => simp [planFails]

/-! ### The holidays (check 9) -/

/-- A holiday above the last one before it. -/
def holidayRises (prev entry : Option Nat) : Prop := ∀ day, entry = some day → ∀ before, prev = some before → before < day

theorem checkHolidays_rises {prev x : Option Nat} (h : holidayRises prev x) (i : Nat) (xs : List (Option Nat)) :
    checkHolidays i prev (x :: xs) = checkHolidays (i + 1) (x.or prev) xs := by
  cases x with
  | none => cases prev <;> rfl
  | some day =>
    cases prev with
    | none => rfl
    | some before => exact if_pos (h day rfl before rfl)

theorem checkHolidays_fails {prev x : Option Nat} (h : ¬ holidayRises prev x) (i : Nat) (xs : List (Option Nat)) :
    checkHolidays i prev (x :: xs) = some i := by
  cases x with
  | none => exact absurd (fun _ hd => nomatch hd) h
  | some day =>
    cases prev with
    | none => exact absurd (fun _ _ _ hb => nomatch hb) h
    | some before =>
      refine if_neg fun hlt => h fun d hd b hb => ?_
      cases hd; cases hb; exact hlt

/-- The last non-empty entry of a list before index `n`. -/
def lastEntry (l : List (Option Nat)) : Nat → Option Nat
  | 0 => none
  | n + 1 => (l[n]?.join).or (lastEntry l n)

theorem lastEntry_eq_some_iff {l : List (Option Nat)} {n day : Nat} :
    lastEntry l n = some day ↔ ∃ m, m < n ∧ l[m]?.join = some day ∧ ∀ j, m < j → j < n → l[j]?.join = none := by
  induction n with
  | zero => simp [lastEntry]
  | succ n ih =>
    rw [lastEntry]
    cases hn : l[n]?.join with
    | some d =>
      rw [Option.some_or]
      constructor
      · rintro h
        exact ⟨n, n.lt_succ_self, hn.trans h, fun j hj hj' => by omega⟩
      · rintro ⟨m, hm, hday, hnone⟩
        by_cases hmn : m = n
        · rw [← hn, ← hmn, hday]
        · rw [hnone n (by omega) n.lt_succ_self] at hn
          cases hn
    | none =>
      rw [Option.none_or, ih]
      constructor
      · rintro ⟨m, hm, hday, hnone⟩
        refine ⟨m, hm.trans n.lt_succ_self, hday, fun j hj hj' => ?_⟩
        by_cases hjn : j = n
        · rw [hjn, hn]
        · exact hnone j hj (by omega)
      · rintro ⟨m, hm, hday, hnone⟩
        have hmn : m ≠ n := by rintro rfl; rw [hn] at hday; cases hday
        exact ⟨m, by omega, hday, fun j hj hj' => hnone j hj (by omega)⟩

/-- From an index on, the first entry that does not rise above the last one before it. -/
theorem checkHolidays_first {l : List (Option Nat)} {n : Nat} (hn : n < l.length) (hf : ¬ holidayRises (lastEntry l n) l[n])
    {i : Nat} (hi : i ≤ n) (before : ∀ (m : Nat) (hm : m < n), holidayRises (lastEntry l m) l[m]) :
    checkHolidays i (lastEntry l i) (l.drop i) = some n := by
  induction hd : n - i generalizing i with
  | zero =>
    obtain rfl : i = n := by omega
    rw [List.drop_eq_getElem_cons hn, checkHolidays_fails hf]
  | succ d ih =>
    have hlt : i < n := by omega
    rw [List.drop_eq_getElem_cons (hlt.trans hn), checkHolidays_rises (before i hlt), ← ih (i := i + 1) hlt before (by omega), lastEntry,
      List.getElem?_eq_getElem (hlt.trans hn), Option.join_some]

theorem checkHolidays_none {l : List (Option Nat)} (h : ∀ (m : Nat) (hm : m < l.length), holidayRises (lastEntry l m) l[m]) {i : Nat} :
    checkHolidays i (lastEntry l i) (l.drop i) = none := by
  induction hd : l.length - i generalizing i with
  | zero => rw [List.drop_eq_nil_of_le (by omega)]; cases lastEntry l i <;> rfl
  | succ d ih =>
    have hlt : i < l.length := by omega
    rw [List.drop_eq_getElem_cons hlt, checkHolidays_rises (h i hlt), ← ih (i := i + 1) (by omega), lastEntry,
      List.getElem?_eq_getElem hlt, Option.join_some]

theorem holidaySound_iff {b : Bank} {n : Fin 32} :
    b.HolidaySound n ↔ holidayRises (lastEntry b.holidays.toList n.val) b.holidays[n] := by
  have hat : ∀ m : Fin 32, b.holidays.toList[m.val]?.join = b.holidays[m] := fun m => by simp
  unfold Bank.HolidaySound holidayRises
  constructor
  · intro h day hday before hbefore
    obtain ⟨m, hm, hmday, hnone⟩ := lastEntry_eq_some_iff.mp hbefore
    have hmlt : m < 32 := hm.trans n.isLt
    exact h day before ⟨m, hmlt⟩ hday hm ((hat ⟨m, hmlt⟩).symm.trans hmday)
      fun j hj hjn => (hat j).symm.trans (hnone j.val hj hjn)
  · intro h day before m hday hm hmday hnone
    refine h day hday before (lastEntry_eq_some_iff.mpr ⟨m.val, hm, (hat m).trans hmday, fun j hj hjn => ?_⟩)
    exact (hat ⟨j, hjn.trans n.isLt⟩).trans (hnone ⟨j, hjn.trans n.isLt⟩ hj hjn)

/-! ### Validation as a whole (R63) -/

section
variable {s : State} {b : Bank}

theorem validateBank_header (h : checkHeader b = some (7, 0)) : validateBank s b = some (7, 0) := by simp [validateBank, h]

variable (hh : checkHeader b = none)
include hh

theorem validateBank_product {n : Fin 64} (hn : ¬ b.ProductSound s n) (before : ∀ m, m < n → b.ProductSound s m) :
    validateBank s b = some (8, n.val) := by
  simp only [validateBank, hh]
  rw [firstFailing_table (product_check_iff rfl fun _ => rfl) hn before]

variable (hp : ∀ n, b.ProductSound s n)
include hp

theorem validateBank_plan {d : Fin 4} (hd : ¬ b.PlanSound d) (before : ∀ e, e < d → b.PlanSound e) :
    validateBank s b = some (11, d.val) := by
  simp only [validateBank, hh]
  rw [firstFailing_soundTable (product_check_iff rfl fun _ => rfl) hp, firstFailing_table plan_check_iff hd before]

variable (hd : ∀ d, b.PlanSound d)
include hd

/-- With the header, the products and the plans sound, the holidays decide. -/
theorem validateBank_holidays :
    validateBank s b = (checkHolidays 0 none b.holidays.toList).map (fun i => (13, i)) := by
  simp only [validateBank, hh]
  rw [firstFailing_soundTable (product_check_iff rfl fun _ => rfl) hp, firstFailing_soundTable plan_check_iff hd]

theorem validateBank_holiday {n : Fin 32} (hn : ¬ b.HolidaySound n) (before : ∀ m, m < n → b.HolidaySound m) :
    validateBank s b = some (13, n.val) := by
  have hfirst : checkHolidays 0 none b.holidays.toList = some n.val :=
    checkHolidays_first (i := 0) (by simp) (fun h => hn (holidaySound_iff.mpr h)) n.val.zero_le
      fun m hm => holidaySound_iff.mp (before ⟨m, hm.trans n.isLt⟩ hm)
  rw [validateBank_holidays hh hp hd, hfirst]
  rfl

theorem validateBank_passes (hn : ∀ n, b.HolidaySound n) : validateBank s b = none := by
  have hnone : checkHolidays 0 none b.holidays.toList = none :=
    checkHolidays_none (i := 0) fun m hm => holidaySound_iff.mp (hn ⟨m, by simpa using hm⟩)
  rw [validateBank_holidays hh hp hd, hnone]
  rfl

end

/-- Validation reads nothing but the templates beside the bank. -/
theorem validateBank_frameForStation (s : State) (b : Bank) : validateBank (frameForStation s) b = validateBank s b := by
  simp [validateBank, productFails, State.templateHasLine]

/-! ### BANK-SWITCH and SWITCH-CANCEL (R61, R62, R64) -/

theorem Tariff.handOver_switch (t : Tariff) (i : BankId) : (t.handOver i).switch = none := rfl

/-- A hand-over changes no unit of a bank (R64). -/
theorem Tariff.handOver_units (t : Tariff) (i j : BankId) :
    ((t.handOver i).bank j).header = (t.bank j).header ∧ ((t.handOver i).bank j).products = (t.bank j).products ∧
      ((t.handOver i).bank j).fares = (t.bank j).fares := by
  cases i <;> cases j <;> simp [Tariff.handOver, Tariff.setBank, Tariff.bank] <;> split <;> simp

theorem exec_bankSwitch (letter : Byte) (minute : MinuteField) (s : State) :
    exec (.bankSwitch letter minute) s = .next (depotRequest 0x44 (doBankSwitch letter minute) s) := rfl

theorem exec_switchCancel (s : State) : exec .switchCancel s = .next (depotRequest 0x45 doSwitchCancel s) := rfl

section
variable {letter : Byte} {minute : MinuteField} {s : State} (hs : s.hears)
include hs

theorem bankSwitch_badField (h : bankOf letter = none ∨ minuteOf minute = none) :
    exec (.bankSwitch letter minute) s = .next ((frameForStation s).withReply 0x44 .badField []) := by
  have hbad : doBankSwitch letter minute (frameForStation s) = refuse .badField (frameForStation s) := by
    unfold doBankSwitch
    split
    · next hl hm => obtain h | h := h <;> simp_all
    · rfl
  rw [exec_bankSwitch, depotRequest_heard hs, hbad]
  rfl

variable {i : BankId} {d : DateTime} (hl : bankOf letter = some i) (hm : minuteOf minute = some d)
include hl hm

theorem bankSwitch_clockUnset (hc : s.clock.state = .invalid) :
    exec (.bankSwitch letter minute) s = .next ((frameForStation s).withReply 0x44 .clockUnset []) := by
  simp [exec_bankSwitch, depotRequest_heard hs, doBankSwitch, hl, hm, hc, refuse]

variable (hc : s.clock.state = .valid)
include hc

theorem bankSwitch_activeBank (ha : (s.tariff.bank i).state = .active) :
    exec (.bankSwitch letter minute) s = .next ((frameForStation s).withReply 0x44 .activeBank []) := by
  simp [exec_bankSwitch, depotRequest_heard hs, doBankSwitch, hl, hm, hc, ha, refuse]

variable (ha : (s.tariff.bank i).state ≠ .active)
include ha

theorem bankSwitch_switchPending (hw : s.tariff.switch.isSome = true) :
    exec (.bankSwitch letter minute) s = .next ((frameForStation s).withReply 0x44 .switchPending []) := by
  simp [exec_bankSwitch, depotRequest_heard hs, doBankSwitch, hl, hm, hc, ha, hw, refuse]

variable (hw : s.tariff.switch = none)
include hw

/-- A bank that fails is EDITING, and the answer names its first failing check (R61, R63). -/
theorem bankSwitch_invalid {table place : Nat} (hv : validateBank s (s.tariff.bank i) = some (table, place)) :
    exec (.bankSwitch letter minute) s = .next
      (((frameForStation s).editBank i (s.tariff.bank i)).withReply 0x44 .bankInvalid [BitVec.ofNat 8 table, BitVec.ofNat 8 place]) := by
  simp [exec_bankSwitch, depotRequest_heard hs, doBankSwitch, hl, hm, hc, ha, hw, validateBank_frameForStation, hv, State.editBank,
    byte1, beBytes]

variable (hv : validateBank s (s.tariff.bank i) = none)
include hv

/-- A switch whose minute is still to come is scheduled, its bank VALID (R61). -/
theorem bankSwitch_scheduled (ht : s.clock.dateTime.minutes < d.minutes) :
    exec (.bankSwitch letter minute) s = .next
      (({ frameForStation s with tariff := { (s.tariff.setBank i { s.tariff.bank i with state := .valid }) with
          switch := some { bank := i, minute := d } } } : State).withReply 0x44 .ok []) := by
  simp [exec_bankSwitch, depotRequest_heard hs, doBankSwitch, hl, hm, hc, ha, hw, validateBank_frameForStation, hv, taken, ht]

/-- A switch whose minute has come is made (R61, R64). -/
theorem bankSwitch_made (ht : d.minutes ≤ s.clock.dateTime.minutes) :
    exec (.bankSwitch letter minute) s = .next
      ((makeSwitch i { frameForStation s with tariff := s.tariff.setBank i { s.tariff.bank i with state := .valid } }).withReply
        0x44 .ok []) := by
  simp [exec_bankSwitch, depotRequest_heard hs, doBankSwitch, hl, hm, hc, ha, hw, validateBank_frameForStation, hv, taken,
    Nat.not_lt.mpr ht]

end

theorem Tariff.setBank_units (t : Tariff) (i j : BankId) (st : BankState) :
    ((t.setBank i { t.bank i with state := st }).bank j).header = (t.bank j).header ∧
      ((t.setBank i { t.bank i with state := st }).bank j).products = (t.bank j).products ∧
      ((t.setBank i { t.bank i with state := st }).bank j).fares = (t.bank j).fares := by
  cases i <;> cases j <;> exact ⟨rfl, rfl, rfl⟩

/-- A switch that is made raises BANK_SWITCHED (R64). -/
theorem makeSwitch_raises (i : BankId) (s : State) :
    ((makeSwitch i s).depot.events[EventKind.bankSwitched.no]).on = true := by
  rw [makeSwitch, recomputeAll_depot, events_raise, if_pos rfl]

/-- Settles O33: the switch and its refusals, then the checks of Table 4-5, then the cancel. -/
theorem bankSwitchAndCancel : Obligations.BankSwitchAndCancel := by
  refine ⟨?_, ?_, ?_, ?_⟩
  · intro letter minute i d s hs hl hm hc ha hw
    subst hl
    have hl := bankOf_letter i
    refine ⟨fun hv ht => ⟨_, bankSwitch_made hs hl hm hc ha hw hv ht, ?_⟩, bankSwitch_scheduled hs hl hm hc ha hw,
      fun table place => bankSwitch_invalid hs hl hm hc ha hw⟩
    simp only [withReply_shared, withReply_depot, makeSwitch_tariff]
    refine ⟨?_, Tariff.handOver_switch _ _, fun j hj => ?_, fun j => ?_, makeSwitch_raises i _, by simp [makeSwitch],
      by simp [makeSwitch], withReply_reply _ _ _ _, fun k => by simp [makeSwitch]⟩
    · rw [Tariff.handOver_state, if_pos rfl]
    · rw [Tariff.handOver_state, if_neg hj, Tariff.bank_setBank_ne _ hj]
    · obtain ⟨hheader, hproducts, hfares⟩ := Tariff.setBank_units s.tariff i j .valid
      obtain ⟨kheader, kproducts, kfares⟩ := Tariff.handOver_units (s.tariff.setBank i { s.tariff.bank i with state := .valid }) i j
      exact ⟨kheader.trans hheader, kproducts.trans hproducts, kfares.trans hfares⟩
  · intro letter minute s hs
    refine ⟨bankSwitch_badField hs, fun i d hl hm => ?_⟩
    subst hl
    have hl := bankOf_letter i
    exact ⟨bankSwitch_clockUnset hs hl hm, bankSwitch_activeBank hs hl hm, bankSwitch_switchPending hs hl hm⟩
  · refine fun s b => ⟨fun h => validateBank_header (checkHeader_fails h), fun h hh hsound => ?_⟩
    have hpass := checkHeader_passes hh hsound
    exact ⟨fun n => validateBank_product hpass, fun hp => ⟨fun d => validateBank_plan hpass hp, fun hd =>
      ⟨fun n => validateBank_holiday hpass hp hd, validateBank_passes hpass hp hd⟩⟩⟩
  · intro s hs
    refine ⟨fun hw => ?_, fun hw => ?_⟩
    · obtain ⟨w, hw⟩ := Option.isSome_iff_exists.mp hw
      simp [exec_switchCancel, depotRequest_heard hs, doSwitchCancel, hw, taken]
    · simp [exec_switchCancel, depotRequest_heard hs, doSwitchCancel, hw, refuse]

end Sys2Proof.Machine
end

section
/-! SUPPORT. Change (chapter 6): the payout order of the tubes, the greedy counts, the retries and the shortfall, and the
exact-change indicator. -/

namespace Sys2Proof.Machine

/-! ### The tubes in payout order (R102) -/

/-- The payout order: descending value, and ascending tube number among equal values (R102). -/
def PaysBefore (p q : PayEntry) : Prop := q.value < p.value ∨ (p.value = q.value ∧ p.tube.val < q.tube.val)

theorem mem_insertPay {e p : PayEntry} {l : List PayEntry} : p ∈ insertPay e l ↔ p = e ∨ p ∈ l := by
  induction l with
  | nil => simp [insertPay]
  | cons q l ih =>
    by_cases h : q.value < e.value
    · simp [insertPay, h]
    · simp only [insertPay, if_neg h, List.mem_cons, ih, or_left_comm]

/-- A tube of a higher number than those placed before it finds its place in payout order. -/
theorem pairwise_insertPay {e : PayEntry} {l : List PayEntry} (hl : l.Pairwise PaysBefore)
    (he : ∀ p ∈ l, p.tube.val < e.tube.val) : (insertPay e l).Pairwise PaysBefore := by
  induction l with
  | nil => exact List.pairwise_singleton _ _
  | cons q l ih =>
    obtain ⟨hq, hl'⟩ := List.pairwise_cons.mp hl
    obtain ⟨heq, hel⟩ := List.forall_mem_cons.mp he
    by_cases h : q.value < e.value
    · rw [insertPay, if_pos h]
      refine List.pairwise_cons.mpr ⟨List.forall_mem_cons.mpr ⟨.inl h, fun p hp => .inl ?_⟩, hl⟩
      rcases hq p hp with hlt | ⟨hv, -⟩ <;> omega
    · rw [insertPay, if_neg h]
      refine List.pairwise_cons.mpr ⟨fun p hp => ?_, ih hl' hel⟩
      rcases mem_insertPay.mp hp with rfl | hp
      · exact (Nat.lt_or_eq_of_le (Nat.not_lt.mp h)).imp id fun hv => ⟨hv.symm, heq⟩
      · exact hq p hp

theorem mem_foldl_insertPay {p : PayEntry} {l acc : List PayEntry} :
    p ∈ l.foldl (fun l e => insertPay e l) acc ↔ p ∈ acc ∨ p ∈ l := by
  induction l generalizing acc with
  | nil => simp
  | cons e l ih => simp only [List.foldl_cons, ih, mem_insertPay, List.mem_cons, or_assoc, or_left_comm]

theorem pairwise_foldl_insertPay {l acc : List PayEntry} (hl : l.Pairwise (fun p q => p.tube.val < q.tube.val))
    (hacc : acc.Pairwise PaysBefore) (h : ∀ p ∈ acc, ∀ e ∈ l, p.tube.val < e.tube.val) :
    (l.foldl (fun l e => insertPay e l) acc).Pairwise PaysBefore := by
  induction l generalizing acc with
  | nil => exact hacc
  | cons e l ih =>
    obtain ⟨he, hl'⟩ := List.pairwise_cons.mp hl
    refine ih hl' (pairwise_insertPay hacc fun p hp => h p hp e List.mem_cons_self) fun p hp q hq => ?_
    rcases mem_insertPay.mp hp with rfl | hp
    · exact he q hq
    · exact h p hp q (List.mem_cons_of_mem _ hq)

/-- A tube takes part when it is PAYABLE, holds coins and its type has a value (R102). -/
theorem participant_eq_some {value : CoinType → Option Nat} {tubes : Vector Tube 6} {n : TubeNo} {p : PayEntry} :
    participant value tubes n = some p ↔ p.tube = n ∧ (tubes[n]).state = .payable ∧ 0 < p.count ∧
      (tubes[n]).count = p.count ∧ ∃ t, (tubes[n]).coinType = some t ∧ value t = some p.value := by
  obtain ⟨tube, count, v⟩ := p
  simp only [participant]
  split
  case isTrue h =>
    simp only [Option.map_eq_some_iff, Option.bind_eq_some_iff, PayEntry.mk.injEq]
    constructor
    · rintro ⟨_, ht, rfl, rfl, rfl⟩
      exact ⟨rfl, h.1, h.2, rfl, ht⟩
    · rintro ⟨rfl, -, -, hc, ht⟩
      exact ⟨v, ht, rfl, hc, rfl⟩
  case isFalse h =>
    refine iff_of_false (by simp) ?_
    rintro ⟨-, hs, hpos, hc, -⟩
    exact h ⟨hs, hc ▸ hpos⟩

theorem mem_participants {value : CoinType → Option Nat} {tubes : Vector Tube 6} {p : PayEntry} :
    p ∈ participants value tubes ↔ participant value tubes p.tube = some p := by
  simp only [participants, mem_foldl_insertPay, List.not_mem_nil, false_or, List.mem_filterMap]
  constructor
  · rintro ⟨n, -, h⟩
    rwa [(participant_eq_some.mp h).1]
  · exact fun h => ⟨p.tube, mem_allTubes _, h⟩

/-- The participants stand in payout order (R102). -/
theorem pairwise_participants (value : CoinType → Option Nat) (tubes : Vector Tube 6) :
    (participants value tubes).Pairwise PaysBefore := by
  have sorted : allTubes.Pairwise (· < ·) := by decide
  refine pairwise_foldl_insertPay (List.pairwise_filterMap.mpr (sorted.imp fun hnm p hp q hq => ?_)) .nil (by simp)
  rw [(participant_eq_some.mp hp).1, (participant_eq_some.mp hq).1]
  exact hnm

/-! ### The greedy counts (R103) -/

/-- The tubes with other counts, as the change computation carries its counts. -/
def withCounts : List PayEntry → List Nat → List PayEntry
  | p :: ps, n :: ns => { p with count := n } :: withCounts ps ns
  | _, _ => []

theorem payList_withCounts (parts : List PayEntry) (c : List Nat) : payList (withCounts parts c) = payoutList parts c := by
  fun_induction withCounts parts c with
  | case1 p ps n ns ih => by_cases h : 0 < n <;> simp_all [payList, payoutList]
  | case2 => simp_all [payList, payoutList]

/-- A list's value is the worth of its counts. -/
theorem payoutList_value (parts : List PayEntry) (c : List Nat) :
    ((payoutList parts c).map (fun e => e.count * e.value)).sum = worth parts c := by
  fun_induction worth parts c with
  | case1 p ps n ns ih =>
    rcases Nat.eq_zero_or_pos n with rfl | h
    · simpa [payoutList] using ih
    · simp [payoutList, h, ih]
  | case2 => simp_all [payoutList]

theorem fillsGreedily_zero {x : Nat} {p : PayEntry} {ps : List PayEntry} {n : Nat} {ns : List Nat} :
    fillsGreedily x (p :: ps) (n :: ns) 0 ↔ n = min p.count (x / p.value) := by
  simp [fillsGreedily, worth]

/-- Behind the first tube, what is left of the amount is filled. -/
theorem fillsGreedily_succ {x i : Nat} {p : PayEntry} {ps : List PayEntry} {n : Nat} {ns : List Nat} :
    fillsGreedily x (p :: ps) (n :: ns) (i + 1) ↔ fillsGreedily (x - n * p.value) ps ns i := by
  simp [fillsGreedily, worth, Nat.sub_sub]

theorem isGreedy_nil {x : Nat} {c : List Nat} : IsGreedy x [] c ↔ c = [] := by
  simp +contextual [IsGreedy, fillsGreedily]

theorem isGreedy_cons {x : Nat} {p : PayEntry} {ps : List PayEntry} {n : Nat} {ns : List Nat} :
    IsGreedy x (p :: ps) (n :: ns) ↔ n = min p.count (x / p.value) ∧ IsGreedy (x - n * p.value) ps ns := by
  simp only [IsGreedy, List.length_cons, Nat.add_right_cancel_iff, ← Nat.and_forall_add_one (p := fillsGreedily x _ _),
    fillsGreedily_zero, fillsGreedily_succ, and_left_comm]

/-- The first tube pays no more than the amount. -/
theorem min_div_mul_le (x c v : Nat) : min c (x / v) * v ≤ x :=
  (Nat.mul_le_mul_right v (Nat.min_le_right c _)).trans (Nat.div_mul_le_self x v)

/-- The model's fill is the greedy counts and what they leave of the amount (R103). -/
theorem greedyFill_of_isGreedy {x : Nat} {parts : List PayEntry} {g : List Nat} (h : IsGreedy x parts g) :
    worth parts g ≤ x ∧ greedyFill x parts = (withCounts parts g, x - worth parts g) := by
  induction parts generalizing x g with
  | nil => obtain rfl := isGreedy_nil.mp h; exact ⟨Nat.zero_le x, rfl⟩
  | cons p ps ih =>
    cases g with
    | nil => cases h.1
    | cons n ns =>
      obtain ⟨hn, hns⟩ := isGreedy_cons.mp h
      obtain ⟨hle, hfill⟩ := ih hns
      have hp : n * p.value ≤ x := hn ▸ min_div_mul_le x p.count p.value
      refine ⟨by rw [worth]; omega, ?_⟩
      simp only [greedyFill, ← hn, hfill, withCounts, worth, Nat.sub_sub]

theorem exists_isGreedy (x : Nat) (parts : List PayEntry) : ∃ g, IsGreedy x parts g := by
  induction parts generalizing x with
  | nil => exact ⟨[], isGreedy_nil.mpr rfl⟩
  | cons p ps ih =>
    obtain ⟨ns, hns⟩ := ih (x - min p.count (x / p.value) * p.value)
    exact ⟨_ :: ns, isGreedy_cons.mpr ⟨rfl, hns⟩⟩

theorem IsGreedy.unique {x : Nat} {parts : List PayEntry} {c d : List Nat} (hc : IsGreedy x parts c)
    (hd : IsGreedy x parts d) : c = d := by
  induction parts generalizing x c d with
  | nil => rw [isGreedy_nil.mp hc, isGreedy_nil.mp hd]
  | cons p ps ih =>
    cases c with
    | nil => cases hc.1
    | cons m ms =>
      cases d with
      | nil => cases hd.1
      | cons n ns =>
        obtain ⟨hm, hms⟩ := isGreedy_cons.mp hc
        obtain ⟨hn, hns⟩ := isGreedy_cons.mp hd
        obtain rfl : m = n := hm.trans hn.symm
        rw [ih hms hns]

/-! ### Counts the tubes can pay -/

/-- No tube is asked for more coins than it holds. -/
def WithinCounts (parts : List PayEntry) (c : List Nat) : Prop := List.Forall₂ (fun p n => n ≤ p.count) parts c

theorem mem_payoutList {parts : List PayEntry} {c : List Nat} (h : WithinCounts parts c) {e : PayEntry}
    (he : e ∈ payoutList parts c) : 0 < e.count ∧ ∃ p ∈ parts, p.tube = e.tube ∧ p.value = e.value ∧ e.count ≤ p.count := by
  induction h with
  | nil => cases he
  | @cons p n ps ns hn _ ih =>
    have later (he : e ∈ payoutList ps ns) : 0 < e.count ∧
        ∃ q ∈ p :: ps, q.tube = e.tube ∧ q.value = e.value ∧ e.count ≤ q.count := by
      obtain ⟨hpos, q, hq, hfields⟩ := ih he
      exact ⟨hpos, q, List.mem_cons_of_mem _ hq, hfields⟩
    rw [payoutList] at he
    split at he
    case isTrue hpos =>
      rcases List.mem_cons.mp he with rfl | he
      · exact ⟨hpos, p, List.mem_cons_self, rfl, rfl, hn⟩
      · exact later he
    case isFalse => exact later he

theorem IsGreedy.within {x : Nat} {parts : List PayEntry} {g : List Nat} (h : IsGreedy x parts g) : WithinCounts parts g := by
  induction parts generalizing x g with
  | nil => obtain rfl := isGreedy_nil.mp h; exact .nil
  | cons p ps ih =>
    cases g with
    | nil => cases h.1
    | cons n ns =>
      obtain ⟨hn, hns⟩ := isGreedy_cons.mp h
      exact .cons (hn ▸ Nat.min_le_left _ _) (ih hns)

/-! ### The retries (R104) -/

theorem isRetry_nil {x j : Nat} {g c : List Nat} : ¬ IsRetry x [] g j c := by
  rintro ⟨hlen, -, ⟨n, -, hc⟩, -⟩
  simp [List.eq_nil_of_length_eq_zero hlen] at hc

/-- The retry at the first tube: one coin fewer there, and the rest of the amount filled greedily. -/
theorem isRetry_zero {x : Nat} {p : PayEntry} {ps : List PayEntry} {m n : Nat} {g ns : List Nat} :
    IsRetry x (p :: ps) (m :: g) 0 (n :: ns) ↔ m = n + 1 ∧ IsGreedy (x - n * p.value) ps ns := by
  have tail : (∀ i, 0 < i → fillsGreedily x (p :: ps) (n :: ns) i) ↔ ∀ i, fillsGreedily (x - n * p.value) ps ns i :=
    ⟨fun h i => fillsGreedily_succ.mp (h _ i.succ_pos), fun h i hi => by
      obtain ⟨i, rfl⟩ := Nat.exists_eq_succ_of_ne_zero hi.ne'
      exact fillsGreedily_succ.mpr (h i)⟩
  simp [IsRetry, IsGreedy, tail, and_left_comm]

/-- The retry at a later tube keeps the first tube's count. -/
theorem isRetry_succ {x j : Nat} {p : PayEntry} {ps : List PayEntry} {m n : Nat} {g ns : List Nat} :
    IsRetry x (p :: ps) (m :: g) (j + 1) (n :: ns) ↔ n = m ∧ IsRetry (x - m * p.value) ps g j ns := by
  have tail : (∀ i, j + 1 < i → fillsGreedily x (p :: ps) (n :: ns) i) ↔
      ∀ i, j < i → fillsGreedily (x - n * p.value) ps ns i :=
    ⟨fun h i hi => fillsGreedily_succ.mp (h _ (Nat.succ_lt_succ hi)), fun h i hi => by
      obtain ⟨i, rfl⟩ := Nat.exists_eq_succ_of_ne_zero (Nat.ne_zero_of_lt hi)
      exact fillsGreedily_succ.mpr (h i (Nat.lt_of_succ_lt_succ hi))⟩
  simp only [IsRetry, List.length_cons, Nat.add_right_cancel_iff, List.take_succ_cons, List.cons.injEq,
    List.getElem?_cons_succ, tail]
  constructor
  · rintro ⟨hlen, ⟨rfl, htake⟩, hrest⟩
    exact ⟨rfl, hlen, htake, hrest⟩
  · rintro ⟨rfl, hlen, htake, hrest⟩
    exact ⟨hlen, ⟨rfl, htake⟩, hrest⟩

theorem IsRetry.unique {x j : Nat} {parts : List PayEntry} {g c d : List Nat} (hg : g.length = parts.length)
    (hc : IsRetry x parts g j c) (hd : IsRetry x parts g j d) : c = d := by
  induction parts generalizing x j g c d with
  | nil => exact absurd hc isRetry_nil
  | cons p ps ih =>
    obtain ⟨k, ks, rfl⟩ := List.exists_cons_of_length_eq_add_one hg
    obtain ⟨m, ms, rfl⟩ := List.exists_cons_of_length_eq_add_one hc.1
    obtain ⟨n, ns, rfl⟩ := List.exists_cons_of_length_eq_add_one hd.1
    cases j with
    | zero =>
      obtain ⟨hm, hms⟩ := isRetry_zero.mp hc
      obtain ⟨hn, hns⟩ := isRetry_zero.mp hd
      obtain rfl : m = n := by omega
      rw [hms.unique hns]
    | succ j =>
      obtain ⟨rfl, hms⟩ := isRetry_succ.mp hc
      obtain ⟨rfl, hns⟩ := isRetry_succ.mp hd
      rw [ih (by simpa using hg) hms hns]

theorem IsRetry.within {x j : Nat} {parts : List PayEntry} {g r : List Nat} (hg : WithinCounts parts g)
    (h : IsRetry x parts g j r) : WithinCounts parts r := by
  induction hg generalizing x j r with
  | nil => exact absurd h isRetry_nil
  | @cons p m ps ms hm hms ih =>
    obtain ⟨n, ns, rfl⟩ := List.exists_cons_of_length_eq_add_one h.1
    cases j with
    | zero =>
      obtain ⟨rfl, hns⟩ := isRetry_zero.mp h
      exact .cons (Nat.le_of_succ_le hm) hns.within
    | succ j =>
      obtain ⟨rfl, hns⟩ := isRetry_succ.mp h
      exact .cons hm (ih hns)

/-- `r` is the first retry that pays the amount. -/
def FirstRetry (x : Nat) (parts : List PayEntry) (g : List Nat) (j : Nat) (r : List Nat) : Prop :=
  IsRetry x parts g j r ∧ worth parts r = x ∧ ∀ i q, i < j → IsRetry x parts g i q → worth parts q ≠ x

/-- No retry pays the amount. -/
def NoRetry (x : Nat) (parts : List PayEntry) (g : List Nat) : Prop :=
  ∀ j r, IsRetry x parts g j r → worth parts r ≠ x

theorem FirstRetry.unique {x i j : Nat} {parts : List PayEntry} {g q r : List Nat} (hg : g.length = parts.length)
    (hq : FirstRetry x parts g i q) (hr : FirstRetry x parts g j r) : q = r := by
  obtain ⟨hqr, hqx, hqfirst⟩ := hq
  obtain ⟨hrr, hrx, hrfirst⟩ := hr
  rcases Nat.lt_trichotomy i j with hij | rfl | hij
  · exact absurd hqx (hrfirst i q hij hqr)
  · exact hqr.unique hg hrr
  · exact absurd hrx (hqfirst j r hij hrr)

section
variable {x : Nat} {p : PayEntry} {ps : List PayEntry} {m : Nat} {g : List Nat}

/-- Retries whose first tube's retry fails are those of the tubes behind it, for what the first tube leaves. -/
theorem firstRetry_succ {j : Nat} {r : List Nat} (hp : m * p.value ≤ x)
    (head : ∀ c, IsRetry x (p :: ps) (m :: g) 0 c → worth (p :: ps) c ≠ x)
    (h : FirstRetry (x - m * p.value) ps g j r) : FirstRetry x (p :: ps) (m :: g) (j + 1) (m :: r) := by
  obtain ⟨hr, hx, hfirst⟩ := h
  refine ⟨isRetry_succ.mpr ⟨rfl, hr⟩, by rw [worth, hx]; omega, fun i q hi hq => ?_⟩
  cases i with
  | zero => exact head q hq
  | succ i =>
    obtain ⟨n, ns, rfl⟩ := List.exists_cons_of_length_eq_add_one hq.1
    obtain ⟨rfl, hns⟩ := isRetry_succ.mp hq
    have := hfirst i ns (Nat.lt_of_succ_lt_succ hi) hns
    rw [worth]; omega

theorem noRetry_cons (head : ∀ c, IsRetry x (p :: ps) (m :: g) 0 c → worth (p :: ps) c ≠ x)
    (h : NoRetry (x - m * p.value) ps g) : NoRetry x (p :: ps) (m :: g) := by
  intro j r hr
  cases j with
  | zero => exact head r hr
  | succ j =>
    obtain ⟨n, ns, rfl⟩ := List.exists_cons_of_length_eq_add_one hr.1
    obtain ⟨rfl, hns⟩ := isRetry_succ.mp hr
    have := h j ns hns
    rw [worth]; omega

end

/-- The model's retries: the first one that pays, where there is one (R104). The first tube's retry succeeds exactly when
the greedy fill behind it leaves nothing. -/
theorem retryFill_cases {x : Nat} {parts : List PayEntry} {g : List Nat} (hg : g.length = parts.length)
    (hw : worth parts g ≤ x) :
    (∃ j r, FirstRetry x parts g j r ∧ retryFill x parts (withCounts parts g) = some (withCounts parts r)) ∨
      (NoRetry x parts g ∧ retryFill x parts (withCounts parts g) = none) := by
  induction parts generalizing x g with
  | nil => exact .inr ⟨fun _ _ h => absurd h isRetry_nil, rfl⟩
  | cons p ps ih =>
    obtain ⟨m, g, rfl⟩ := List.exists_cons_of_length_eq_add_one hg
    rw [worth] at hw
    obtain ⟨ns, hns⟩ := exists_isGreedy (x - (m - 1) * p.value) ps
    obtain ⟨hle, hfill⟩ := greedyFill_of_isGreedy hns
    have hpred : (m - 1) * p.value ≤ m * p.value := Nat.mul_le_mul_right _ (Nat.sub_le m 1)
    by_cases hpays : 0 < m ∧ x - (m - 1) * p.value - worth ps ns = 0
    · refine .inl ⟨0, (m - 1) :: ns, ⟨isRetry_zero.mpr ⟨by omega, hns⟩, by rw [worth]; omega, by simp⟩, ?_⟩
      simp only [withCounts, retryFill, hfill, if_pos hpays]
    · have head : ∀ c, IsRetry x (p :: ps) (m :: g) 0 c → worth (p :: ps) c ≠ x := by
        intro c hc hx
        obtain ⟨n, cs, rfl⟩ := List.exists_cons_of_length_eq_add_one hc.1
        obtain ⟨rfl, hcs⟩ := isRetry_zero.mp hc
        rw [hcs.unique hns, worth] at hx
        exact hpays ⟨n.succ_pos, by simp only [Nat.add_sub_cancel]; omega⟩
      simp only [withCounts, retryFill, hfill, if_neg hpays]
      rcases ih (x := x - m * p.value) (g := g) (by simpa using hg) (by omega) with ⟨j, r, hr, heq⟩ | ⟨hno, heq⟩
      · exact .inl ⟨j + 1, m :: r, firstRetry_succ (by omega) head hr, by simp [heq, withCounts]⟩
      · exact .inr ⟨noRetry_cons head hno, by simp [heq]⟩

/-! ### The answer to a change computation (R105) -/

section
variable {x : Nat} {parts : List PayEntry} {g : List Nat} (hg : IsGreedy x parts g)
include hg

theorem makeChange_of_greedy (hx : worth parts g = x) :
    makeChange x parts = { list := payoutList parts g, paid := x, shortfall := 0, makeable := true } := by
  simp [makeChange, (greedyFill_of_isGreedy hg).2, payList_withCounts, hx]

theorem makeChange_of_retry (hx : worth parts g ≠ x) {j : Nat} {r : List Nat} (hr : FirstRetry x parts g j r) :
    makeChange x parts = { list := payoutList parts r, paid := x, shortfall := 0, makeable := true } := by
  obtain ⟨hle, hfill⟩ := greedyFill_of_isGreedy hg
  have hrest : x - worth parts g ≠ 0 := by omega
  rcases retryFill_cases hg.1 hle with ⟨i, q, hq, hretry⟩ | ⟨hno, -⟩
  · simp [makeChange, hfill, hrest, hretry, payList_withCounts, hq.unique hg.1 hr]
  · exact absurd hr.2.1 (hno j r hr.1)

theorem makeChange_of_noRetry (hx : worth parts g ≠ x) (hno : NoRetry x parts g) :
    makeChange x parts =
      { list := payoutList parts g, paid := worth parts g, shortfall := x - worth parts g, makeable := false } := by
  obtain ⟨hle, hfill⟩ := greedyFill_of_isGreedy hg
  have hrest : x - worth parts g ≠ 0 := by omega
  rcases retryFill_cases hg.1 hle with ⟨i, q, ⟨hq, hqx, -⟩, -⟩ | ⟨-, hretry⟩
  · exact absurd hqx (hno i q hq)
  · simp [makeChange, hfill, hrest, hretry, payList_withCounts, Nat.sub_sub_self hle]

end

/-- What every answer is: a payout of counts that the tubes hold, with what is left of the amount as the shortfall. -/
theorem makeChange_pays (x : Nat) (parts : List PayEntry) :
    ∃ c, WithinCounts parts c ∧ worth parts c ≤ x ∧ makeChange x parts =
      { list := payoutList parts c, paid := worth parts c, shortfall := x - worth parts c,
        makeable := decide (worth parts c = x) } := by
  obtain ⟨g, hg⟩ := exists_isGreedy x parts
  have hle := (greedyFill_of_isGreedy hg).1
  by_cases hx : worth parts g = x
  · exact ⟨g, hg.within, hle, by simp [makeChange_of_greedy hg hx, hx]⟩
  · rcases retryFill_cases hg.1 hle with ⟨j, r, hr, -⟩ | ⟨hno, -⟩
    · exact ⟨r, hr.1.within hg.within, hr.2.1.le, by simp [makeChange_of_retry hg hx hr, hr.2.1]⟩
    · exact ⟨g, hg.within, hle, by simp [makeChange_of_noRetry hg hx hno, hx]⟩

/-- Settles O26: the payout order, then the three passes, then what holds of every answer. -/
theorem changeIsExact : Obligations.ChangeIsExact := by
  refine ⟨fun value tubes => ⟨pairwise_participants value tubes, fun p => ?_⟩, fun x parts g hg => ?_, fun x parts => ?_⟩
  · rw [mem_participants, participant_eq_some, and_iff_right rfl]
  · exact ⟨makeChange_of_greedy hg, fun hx => ⟨fun j r hr hrx hfirst => makeChange_of_retry hg hx ⟨hr, hrx, hfirst⟩,
      makeChange_of_noRetry hg hx⟩⟩
  · obtain ⟨c, hc, hle, heq⟩ := makeChange_pays x parts
    simp only [heq, payoutList_value, decide_eq_true_eq]
    exact ⟨Nat.add_sub_cancel' hle, Nat.add_sub_cancel' hle, by omega, fun e he => mem_payoutList hc he⟩

/-! ### The exact-change indicator (R106) -/

/-- What an entry of the coin table counts for in the greatest ACCEPT value. -/
def acceptValue : Option CoinEntry → Nat
  | some e => if e.use = .accept then e.value else 0
  | none => 0

theorem acceptMax_eq_foldl (coins : Vector (Option CoinEntry) 16) :
    acceptMax coins = (coins.toList.map acceptValue).foldl max 0 := by
  rw [acceptMax, List.foldl_map]
  congr 1
  funext m e
  rcases e with _ | e
  · exact (Nat.max_zero m).symm
  · by_cases h : e.use = .accept <;> simp [acceptValue, h]

/-- The greatest ACCEPT value is the maximum over the table. -/
theorem max?_acceptValue (coins : Vector (Option CoinEntry) 16) :
    (coins.toList.map acceptValue).max? = some (acceptMax coins) := by
  have hne : coins.toList.map acceptValue ≠ [] := List.ne_nil_of_length_pos (by simp)
  obtain ⟨m, hm⟩ := Option.isSome_iff_exists.mp (List.isSome_max?_of_ne_nil hne)
  rw [acceptMax_eq_foldl, List.foldl_max, hm, Option.getD_some, Nat.zero_max]

theorem acceptValue_le_acceptMax (coins : Vector (Option CoinEntry) 16) (i : CoinType) :
    acceptValue coins[i] ≤ acceptMax coins :=
  (List.max?_eq_some_iff.mp (max?_acceptValue coins)).2 _
    (List.mem_map_of_mem (Vector.mem_toList_iff.mpr (Vector.getElem_mem i.isLt)))

theorem exists_acceptValue_eq_acceptMax (coins : Vector (Option CoinEntry) 16) :
    ∃ i : CoinType, acceptValue coins[i] = acceptMax coins := by
  obtain ⟨e, he, hmax⟩ := List.mem_map.mp (List.max?_eq_some_iff.mp (max?_acceptValue coins)).1
  obtain ⟨i, hi, rfl⟩ := Vector.mem_iff_getElem.mp (Vector.mem_toList_iff.mp he)
  exact ⟨⟨i, hi⟩, hmax⟩

theorem le_acceptMax {coins : Vector (Option CoinEntry) 16} {i : CoinType} {e : CoinEntry} (he : coins[i] = some e)
    (hu : e.use = .accept) : e.value ≤ acceptMax coins := by
  simpa [he, acceptValue, hu] using acceptValue_le_acceptMax coins i

theorem acceptMax_attained (coins : Vector (Option CoinEntry) 16) :
    acceptMax coins = 0 ∨ ∃ (i : CoinType) (e : CoinEntry), coins[i] = some e ∧ e.use = .accept ∧ e.value = acceptMax coins := by
  obtain ⟨i, hi⟩ := exists_acceptValue_eq_acceptMax coins
  cases he : coins[i] with
  | none => exact .inl (by simpa [he, acceptValue] using hi.symm)
  | some e =>
    by_cases hu : e.use = .accept
    · exact .inr ⟨i, e, he, hu, by simpa [he, acceptValue, hu] using hi⟩
    · exact .inl (by simpa [he, acceptValue, hu] using hi.symm)

/-- The multiples tested are those up to the greatest value less the step (R106). -/
theorem lt_testedMultiples_iff {g most m : Nat} (hg : 0 < g) : m < (most - g) / g ↔ (m + 1) * g + g ≤ most := by
  have : 0 < (m + 1) * g := Nat.mul_pos m.succ_pos hg
  rw [Nat.lt_iff_add_one_le, Nat.le_div_iff_mul_le hg]
  omega

theorem indicatorOf_noBank {k : Kiosk} {s : State} (h : s.activeHeader = none) : indicatorOf k s = false := by
  simp [indicatorOf, h]

theorem indicatorOf_iff {k : Kiosk} {s : State} {h : Header} (hh : s.activeHeader = some h) (hg : 0 < h.step) :
    indicatorOf k s = true ↔
      ∃ m, 1 ≤ m ∧ m * h.step + h.step ≤ acceptMax s.coins ∧ (liveChange k (m * h.step) s).makeable = false := by
  simp only [indicatorOf, hh, List.any_eq_true, List.mem_range, Bool.not_eq_true', lt_testedMultiples_iff hg, liveChange]
  constructor
  · rintro ⟨m, hm, hno⟩
    exact ⟨m + 1, m.succ_pos, hm, hno⟩
  · rintro ⟨m, hpos, hm, hno⟩
    obtain ⟨m, rfl⟩ := Nat.exists_eq_succ_of_ne_zero (Nat.ne_zero_of_lt hpos)
    exact ⟨m, hm, hno⟩

/-- Settles O27: the indicator, then the greatest ACCEPT value as a bound that is met. -/
theorem indicatorTestsEveryAmount : Obligations.IndicatorTestsEveryAmount := fun _ s =>
  ⟨indicatorOf_noBank, fun _ hh hg => ⟨indicatorOf_iff hh hg, fun _ _ => le_acceptMax, acceptMax_attained s.coins⟩⟩

end Sys2Proof.Machine
end

section
/-! SUPPORT. The cards (chapter 7), first the frame of a kiosk's doings: what every operation at the kiosks of a set leaves of
the part outside them, block by block in the order of the model. -/

namespace Sys2Proof.Machine

/-! ### What stands outside a set of kiosks -/

/-- What the part holds outside the kiosks of `K`: the other kiosks' contexts and listed requests, and the tables, the clock and
the waiting commands, which no operation at a kiosk moves. -/
structure Outside (K : Finset Kiosk) where
  ctx : (j : Kiosk) → j ∉ K → KioskCtx
  requests : List AuthEntry
  stopList : List Nat
  coins : Vector (Option CoinEntry) 16
  tariff : Tariff
  templates : Vector (Vector (Option LineRecord) 24) 16
  settings : Settings
  clock : Clock
  pending : List Instr

/-- The view of a state outside the kiosks of `K`. -/
def State.outside (s : State) (K : Finset Kiosk) : Outside K :=
  { ctx := fun j _ => s.ctx j, requests := s.cards.authList.filter (fun e => decide (e.kiosk ∉ K)),
    stopList := s.cards.stopList, coins := s.coins, tariff := s.tariff, templates := s.templates, settings := s.settings,
    clock := s.clock, pending := s.pending }

section
variable {s t : State} {K : Finset Kiosk} (h : t.outside K = s.outside K)
include h

theorem ctx_of_outside {j : Kiosk} (hj : j ∉ K) : t.ctx j = s.ctx j := congrFun (congrFun (congrArg Outside.ctx h) j) hj
theorem stopList_of_outside : t.cards.stopList = s.cards.stopList := congrArg Outside.stopList h
theorem settings_of_outside : t.settings = s.settings := congrArg Outside.settings h

/-- A kiosk outside has a request listed as before. -/
theorem listed_of_outside {j : Kiosk} (hj : j ∉ K) : t.listed j = s.listed j := by
  have own : ∀ u : State, u.listed j = (u.cards.authList.filter (fun e => decide (e.kiosk ∉ K))).any (fun e => decide (e.kiosk = j)) := by
    intro u
    rw [State.listed, List.any_filter, Bool.eq_iff_iff]
    simp only [List.any_eq_true, decide_eq_true_eq, Bool.and_eq_true]
    constructor
    · rintro ⟨e, he, rfl⟩
      exact ⟨e, he, hj, rfl⟩
    · rintro ⟨e, he, -, hk⟩
      exact ⟨e, he, hk⟩
  rw [own, own]
  exact congrArg (fun l => l.any (fun e => decide (e.kiosk = j))) (congrArg Outside.requests h)

end

/-- A state read out of an answer has the view that the answer's state has. -/
theorem outside_of_answer {α : Type} {r : State × α} {t : State} {x : α} (h : r = (t, x)) (K : Finset Kiosk) :
    t.outside K = r.1.outside K := by rw [h]

/-! ### The shared fields that an operation at a kiosk moves -/

/-- The loops, the float with its table, the journal and the depot line are not part of the view. -/
@[simp] theorem outside_shared (s : State) (K : Finset Kiosk) (la lb : LoopCtl) (total remaining delivered : Nat) (low : Bool)
    (table : List OfflineEntry) (jo : Journal) (de : Depot) :
    (State.mk s.pending la lb s.kiosks s.coins s.tariff ⟨s.cards.stopList, s.cards.authList, total, remaining, delivered, low, table⟩
      s.templates s.settings jo s.clock de).outside K = s.outside K := rfl
@[simp] theorem outside_unshared (s : State) (K : Finset Kiosk) (la lb : LoopCtl) (jo : Journal) (de : Depot) :
    (State.mk s.pending la lb s.kiosks s.coins s.tariff s.cards s.templates s.settings jo s.clock de).outside K = s.outside K := rfl
@[simp] theorem setLoop_outside (s : State) (l : LoopId) (c : LoopCtl) (K : Finset Kiosk) :
    (s.setLoop l c).outside K = s.outside K := by cases l <;> rfl
@[simp] theorem raise_outside (e : EventKind) (n : Option Kiosk) (s : State) (K : Finset Kiosk) :
    (raise e n s).outside K = s.outside K := rfl
@[simp] theorem clearEvent_outside (e : EventKind) (s : State) (K : Finset Kiosk) :
    (clearEvent e s).outside K = s.outside K := rfl
@[simp] theorem raiseLevel_outside (e : EventKind) (s : State) (K : Finset Kiosk) :
    (raiseLevel e s).outside K = s.outside K := by
  unfold raiseLevel; split <;> simp
@[simp] theorem reserve_outside (s : State) (K : Finset Kiosk) : (reserve s).1.outside K = s.outside K := by
  simp only [reserve]; repeat' split
  all_goals simp
@[simp] theorem releaseReservation_outside (s : State) (K : Finset Kiosk) :
    (releaseReservation s).outside K = s.outside K := rfl
@[simp] theorem judgeFloat_outside (s : State) (K : Finset Kiosk) : (judgeFloat s).outside K = s.outside K := by
  simp only [judgeFloat, raiseLevel_outside]; split <;> rfl

/-- A request that joins the list is one of its kiosk's own. -/
@[simp] theorem listRequest_outside {K : Finset Kiosk} {e : AuthEntry} (he : e.kiosk ∈ K) (s : State) :
    (listRequest e s).outside K = s.outside K := by
  rw [listRequest, raiseLevel_outside]
  simp [State.outside, he]

/-! ### What is done at a kiosk of the set -/

section
variable {K : Finset Kiosk} {k : Kiosk} (hk : k ∈ K)
include hk

@[simp] theorem upd_outside (s : State) (f : KioskCtx → KioskCtx) : (s.upd k f).outside K = s.outside K := by
  have hctx : (s.upd k f).ctx = fun j => if j = k then f (s.ctx j) else s.ctx j := funext fun j => s.ctx_upd k j f
  simp only [State.outside, hctx, State.cards_upd, State.coins_upd, State.tariff_upd, State.templates_upd, State.settings_upd,
    State.clock_upd, State.pending_upd, Outside.mk.injEq, and_true]
  funext j hj
  rw [if_neg (by rintro rfl; exact hj hk)]

@[simp] theorem updLink_outside (s : State) (f : KLink → KLink) : (s.updLink k f).outside K = s.outside K := upd_outside hk s _
@[simp] theorem updCoin_outside (s : State) (f : KCoin → KCoin) : (s.updCoin k f).outside K = s.outside K := upd_outside hk s _
@[simp] theorem updCash_outside (s : State) (f : KCash → KCash) : (s.updCash k f).outside K = s.outside K := upd_outside hk s _
@[simp] theorem updInlet_outside (s : State) (f : Inlet → Inlet) : (s.updInlet k f).outside K = s.outside K := upd_outside hk s _
@[simp] theorem updSess_outside (s : State) (f : Session → Session) : (s.updSess k f).outside K = s.outside K := upd_outside hk s _
@[simp] theorem updSvc_outside (s : State) (f : Service → Service) : (s.updSvc k f).outside K = s.outside K := upd_outside hk s _
@[simp] theorem updCard_outside (s : State) (f : KCard → KCard) : (s.updCard k f).outside K = s.outside K := upd_outside hk s _
@[simp] theorem setDisp_outside (s : State) (d : Display) : (s.setDisp k d).outside K = s.outside K := upd_outside hk s _
@[simp] theorem setJobs_outside (s : State) (l : List Job) : (s.setJobs k l).outside K = s.outside K := upd_outside hk s _
@[simp] theorem setDaily_outside (s : State) (d : Daily) : (s.setDaily k d).outside K = s.outside K := upd_outside hk s _

/-! ### Commands offered, and the display (R12–R14, R100) -/

@[simp] theorem offer_outside (c : Cmd) (s : State) : (offer k c s).1.outside K = s.outside K := by simp [offer, hk]
@[simp] theorem rewriteCmd_outside (c : Cmd) (s : State) : (rewriteCmd k c s).outside K = s.outside K := by simp [rewriteCmd, hk]
@[simp] theorem offerShow_outside (s : State) : (offerShow k s).outside K = s.outside K := by simp [offerShow, hk]
@[simp] theorem showDisplay_outside (d : Display) (s : State) : (showDisplay k d s).outside K = s.outside K := by
  simp [showDisplay, hk]
@[simp] theorem putDisplay_outside (d : Display) (s : State) : (putDisplay k d s).outside K = s.outside K := by
  unfold putDisplay; split <;> simp [hk]
@[simp] theorem putMessage_outside (m : Message) (s : State) : (putMessage k m s).outside K = s.outside K := by
  simp [putMessage, hk]
@[simp] theorem showMessage_outside (m : Message) (s : State) : (showMessage k m s).outside K = s.outside K := by
  simp [showMessage, hk]
@[simp] theorem recompute_outside (s : State) : (recompute k s).outside K = s.outside K := by simp [recompute, hk]
@[simp] theorem startInactivity_outside (s : State) : (startInactivity k s).outside K = s.outside K := by
  simp [startInactivity, hk]
@[simp] theorem activity_outside (s : State) : (activity k s).outside K = s.outside K := by
  unfold activity; split <;> simp [hk]

/-! ### The journal and the cards (chapters 7 and 9) -/

@[simp] theorem append_outside (r : Record) (s : State) : (append k r s).outside K = s.outside K := by simp [append, hk]
@[simp] theorem offlineRule_outside (card a : Nat) (s : State) : (offlineRule k card a s).1.outside K = s.outside K := by
  unfold offlineRule; split <;> simp [hk]
@[simp] theorem restoreGrant_outside (s : State) : (restoreGrant k s).outside K = s.outside K := by
  unfold restoreGrant; split <;> simp [hk]
@[simp] theorem deliverGrant_outside (s : State) : (deliverGrant k s).outside K = s.outside K := by
  unfold deliverGrant; split <;> simp [hk]
@[simp] theorem conclude_outside (c : Conclusion) (s : State) : (conclude k c s).outside K = s.outside K := by simp [conclude, hk]

/-- A request that leaves the list is one of the kiosk's own. -/
@[simp] theorem unlist_outside (s : State) : (unlist k s).outside K = s.outside K := by
  have hlist : (s.cards.authList.filter (fun e => decide (e.kiosk ≠ k))).filter (fun e => decide (e.kiosk ∉ K)) =
      s.cards.authList.filter (fun e => decide (e.kiosk ∉ K)) := by
    rw [List.filter_filter]
    refine List.filter_congr fun e _ => ?_
    rw [Bool.and_eq_left_iff_imp, decide_eq_true_eq, decide_eq_true_eq]
    exact fun he hek => he (hek ▸ hk)
  simp only [State.outside, unlist, hlist]
  rfl

@[simp] theorem withdraw_outside (s : State) : (withdraw k s).outside K = s.outside K := by
  unfold withdraw; split <;> simp [hk]

@[simp] theorem setIssued_outside (w : Option CardWrite) (s : State) : (setIssued k w s).outside K = s.outside K := by
  simp [setIssued, hk]
@[simp] theorem authoriserClose_outside (o : SessOutcome) (d : Bool) (s : State) :
    (authoriserClose k o d s).outside K = s.outside K := by
  simp only [authoriserClose]; repeat' split
  all_goals simp [hk]

/-! ### The Cash Unit -/

@[simp] theorem tubeNote_outside (n : TubeNo) (old : Tube) (s : State) : (tubeNote k n old s).outside K = s.outside K := by
  simp only [tubeNote, recompute_outside hk]; repeat' split
  all_goals simp [hk]
@[simp] theorem changeTubes_outside (f : TubeNo → Tube → Tube) (s : State) :
    (changeTubes k f s).outside K = s.outside K := by
  rw [changeTubes_eq_foldl]
  refine (foldl_keeps (fun n t => noteTube k _ _ t n) (fun t => t.outside K) (fun n t => ?_) allTubes _).trans (by simp [hk])
  unfold noteTube; split <;> simp [hk]
@[simp] theorem writeTube_outside (n : TubeNo) (t : Tube) (s : State) : (writeTube k n t s).outside K = s.outside K := by
  simp [writeTube, hk]
@[simp] theorem addCashbox_outside (n : Nat) (s : State) : (addCashbox k n s).outside K = s.outside K := by simp [addCashbox, hk]
@[simp] theorem setEscrow_outside (l : List EscrowEntry) (s : State) : (setEscrow k l s).outside K = s.outside K := by
  simp only [setEscrow]; split <;> simp [hk]
@[simp] theorem offerEscrow_outside (a : EscrowAction) (l : List EscrowEntry) (o : EscrowOrigin) (s : State) :
    (offerEscrow k a l o s).1.outside K = s.outside K := by
  simp only [offerEscrow]; split <;> simp [hk]
@[simp] theorem holdEscrow_outside (a : EscrowAction) (l : List EscrowEntry) (s : State) :
    (holdEscrow k a l s).outside K = s.outside K := by simp [holdEscrow, hk]
@[simp] theorem requestEscrow_outside (a : EscrowAction) (s : State) : (requestEscrow k a s).1.outside K = s.outside K := by
  simp only [requestEscrow]
  split
  · rfl
  · split
    · simp [hk]
    · split <;> rename_i h <;> simp [outside_of_answer h, hk]
@[simp] theorem offerHeldEscrow_outside (s : State) : (offerHeldEscrow k s).outside K = s.outside K := by
  unfold offerHeldEscrow
  split
  · rfl
  · split <;> rename_i h <;> simp [outside_of_answer h, hk]
@[simp] theorem escrowTaken_outside (s : State) : (escrowTaken k s).1.outside K = s.outside K := by
  simp only [escrowTaken]
  split
  · rfl
  · simp only [offerHeldEscrow_outside hk, updCash_outside hk]; split <;> simp [hk]
@[simp] theorem restoreEscrow_outside (s : State) : (restoreEscrow k s).outside K = s.outside K := by simp [restoreEscrow, hk]
@[simp] theorem escrowNotTaken_outside (s : State) : (escrowNotTaken k s).1.outside K = s.outside K := by
  unfold escrowNotTaken; split <;> simp [hk]
@[simp] theorem escrowAbsence_outside (s : State) : (escrowAbsence k s).outside K = s.outside K := by
  unfold escrowAbsence; split <;> simp [hk]
@[simp] theorem escrowPresence_outside (s : State) : (escrowPresence k s).outside K = s.outside K := by
  simp only [escrowPresence]
  split
  · rfl
  · split
    · simp [hk]
    · split <;> rename_i h <;> simp [outside_of_answer h, hk]
@[simp] theorem escrowRestart_outside (s : State) : (escrowRestart k s).outside K = s.outside K := by simp [escrowRestart, hk]
@[simp] theorem landInTube_outside (n : TubeNo) (t : Option CoinType) (s : State) :
    (landInTube k n t s).outside K = s.outside K := by
  unfold landInTube; repeat' split
  all_goals simp [hk]
@[simp] theorem applyLanding_outside (d : Dest) (t : Option CoinType) (v : Nat) (s : State) :
    (applyLanding k d t v s).outside K = s.outside K := by
  unfold applyLanding; repeat' split
  all_goals simp [hk]
@[simp] theorem registerOrder_outside (l : List PayEntry) (s : State) : (registerOrder k l s).outside K = s.outside K := by simp [registerOrder, hk]
@[simp] theorem orderTaken_outside (s : State) : (orderTaken k s).outside K = s.outside K := by simp [orderTaken, hk]
@[simp] theorem applyPayReport_outside (counts : Vector Nat 6) (s : State) :
    (applyPayReport k counts s).outside K = s.outside K := by
  unfold applyPayReport; repeat' split
  all_goals simp [hk]
@[simp] theorem abandonOrder_outside (s : State) : (abandonOrder k s).outside K = s.outside K := by
  unfold abandonOrder; split <;> simp [hk]
@[simp] theorem applyFill_outside (counts : Vector Nat 6) (s : State) : (applyFill k counts s).outside K = s.outside K := by
  unfold applyFill; split <;> simp [hk]

/-! ### The coin inlet -/

@[simp] theorem offerInlet_outside (s : State) : (offerInlet k s).outside K = s.outside K := by simp [offerInlet, hk]
@[simp] theorem addCause_outside (add : Inlet → Inlet) (s : State) : (addCause k add s).outside K = s.outside K := by
  unfold addCause; split <;> simp [hk]
@[simp] theorem reopen_outside (s : State) : (reopen k s).outside K = s.outside K := by simp [reopen, hk]
@[simp] theorem removeCauses_outside (i : Inlet) (s : State) : (removeCauses k i s).outside K = s.outside K := by
  simp only [removeCauses]; repeat' split
  all_goals simp [hk]
@[simp] theorem cashboxChanged_outside (v : CashboxIn) (s : State) : (cashboxChanged k v s).outside K = s.outside K := by
  unfold cashboxChanged; repeat' split
  all_goals simp [hk]
@[simp] theorem rejectRunReached_outside (s : State) : (rejectRunReached k s).outside K = s.outside K := by
  simp [rejectRunReached, hk]
@[simp] theorem sessionReturned_outside (s : State) : (sessionReturned k s).outside K = s.outside K := by
  simp only [sessionReturned]; repeat' split
  all_goals simp [hk]
@[simp] theorem inletBlock_outside (s : State) : (inletBlock k s).outside K = s.outside K := by
  unfold inletBlock; split <;> simp [hk]
@[simp] theorem inletRelease_outside (s : State) : (inletRelease k s).outside K = s.outside K := by simp [inletRelease, hk]
@[simp] theorem inletMode_outside (m : InletMode) (s : State) : (inletMode k m s).outside K = s.outside K := by
  simp only [inletMode]; repeat' split
  all_goals simp [hk]
@[simp] theorem inletRestart_outside (s : State) : (inletRestart k s).outside K = s.outside K := by simp [inletRestart, hk]
@[simp] theorem cashPresence_outside (s : State) : (cashPresence k s).outside K = s.outside K := by simp [cashPresence, hk]

/-! ### The Coin Classifier -/

@[simp] theorem decisionNotice_outside (accept : Bool) (s : State) : (decisionNotice k accept s).outside K = s.outside K := by
  simp only [decisionNotice]; repeat' split
  all_goals simp [hk]
@[simp] theorem firstCoin_outside (r1 r2 r3 : Nat) (s : State) : (firstCoin k r1 r2 r3 s).outside K = s.outside K := by
  simp [firstCoin, hk]
@[simp] theorem secondCoin_outside (s : State) : (secondCoin k s).outside K = s.outside K := by
  simp only [secondCoin, decisionNotice_outside hk]; split <;> simp [hk]
@[simp] theorem coinFrame_outside (r1 r2 r3 : Nat) (s : State) : (coinFrame k r1 r2 r3 s).outside K = s.outside K := by
  unfold coinFrame; split <;> simp [hk]
@[simp] theorem gateTaken_outside (s : State) : (gateTaken k s).outside K = s.outside K := by
  simp only [gateTaken]; split <;> simp [hk]
@[simp] theorem gateNotTaken_outside (s : State) : (gateNotTaken k s).outside K = s.outside K := by simp [gateNotTaken, hk]
@[simp] theorem discardCoins_outside (s : State) : (discardCoins k s).outside K = s.outside K := by simp [discardCoins, hk]
@[simp] theorem releaseCoin_outside (s : State) : (releaseCoin k s).1.outside K = s.outside K := by
  unfold releaseCoin
  split
  · rfl
  · split
    · rfl
    · simp only [updCoin_outside hk]; split <;> simp [hk]
@[simp] theorem tableChangedAt_outside (s : State) : (tableChangedAt k s).outside K = s.outside K := by
  unfold tableChangedAt; repeat' split
  all_goals simp [hk]

/-! ### The Receipt Composer -/

@[simp] theorem joinJob_outside (serial : Nat) (p : Printed) (s : State) : (joinJob k serial p s).outside K = s.outside K := by simp [joinJob, hk]
@[simp] theorem makeJob_outside (c : Closed) (s : State) : (makeJob k c s).1.outside K = s.outside K := by
  simp only [makeJob]; split <;> simp [hk]
@[simp] theorem requestReceipt_outside (o : SessOutcome) (s : State) : (requestReceipt k o s).1.outside K = s.outside K := by
  obtain h | ⟨_, h⟩ := requestReceipt_cases k o s <;> simp [h, hk]
@[simp] theorem updHead_outside (f : Job → Job) (s : State) : (updHead k f s).outside K = s.outside K := by
  unfold updHead; split <;> simp [hk]
@[simp] theorem printReady_outside (slots : Nat) (s : State) : (printReady k slots s).outside K = s.outside K := by
  unfold printReady; repeat' split
  all_goals simp [hk]
@[simp] theorem removeHead_outside (s : State) : (removeHead k s).outside K = s.outside K := by
  unfold removeHead; split <;> simp [hk]
@[simp] theorem printTaken_outside (n : Nat) (cut : Bool) (s : State) : (printTaken k n cut s).outside K = s.outside K := by
  simp only [printTaken]; split <;> simp [hk]
@[simp] theorem printNotTaken_outside (n : Nat) (s : State) : (printNotTaken k n s).outside K = s.outside K := by
  simp [printNotTaken, hk]
@[simp] theorem resumeHead_outside (s : State) : (resumeHead k s).outside K = s.outside K := by simp [resumeHead, hk]
@[simp] theorem paperChanged_outside (v : PaperIn) (s : State) : (paperChanged k v s).outside K = s.outside K := by
  unfold paperChanged; split <;> simp [hk]
@[simp] theorem receiptPresence_outside (s : State) : (receiptPresence k s).outside K = s.outside K := by
  simp [receiptPresence, hk]

/-! ### The Session Engine -/

@[simp] theorem toIdle_outside (m : Message) (s : State) : (toIdle k m s).outside K = s.outside K := by simp [toIdle, hk]
@[simp] theorem settleRecord_outside (o : SessOutcome) (d : Bool) (s : State) :
    (settleRecord k o d s).outside K = s.outside K := by simp [settleRecord, hk]
@[simp] theorem closeSession_outside (s : State) : (closeSession k s).outside K = s.outside K := by
  simp only [closeSession, toIdle_outside hk, settleRecord_outside hk]; repeat' split
  all_goals simp [hk]
@[simp] theorem closeIfDone_outside (s : State) : (closeIfDone k s).outside K = s.outside K := by
  simp only [closeIfDone]; split <;> simp [hk]
@[simp] theorem startPayout_outside (amount : Nat) (s : State) : (startPayout k amount s).outside K = s.outside K := by
  simp only [startPayout]
  split
  · rfl
  · split
    · rfl
    · split <;> rename_i h <;> simp [outside_of_answer h, hk]
@[simp] theorem enterChange_outside (s : State) : (enterChange k s).outside K = s.outside K := by simp [enterChange, hk]
@[simp] theorem restoreAtRefund_outside (s : State) : (restoreAtRefund k s).outside K = s.outside K := by
  simp only [restoreAtRefund]; split <;> simp [hk]
@[simp] theorem enterRefund_outside (m : Message) (s : State) : (enterRefund k m s).outside K = s.outside K := by
  simp [enterRefund, hk]
@[simp] theorem writeFailed_outside (m : Message) (s : State) : (writeFailed k m s).outside K = s.outside K := by
  simp [writeFailed, hk]
@[simp] theorem enterWriting_outside (s : State) : (enterWriting k s).outside K = s.outside K := by
  simp only [enterWriting]
  split
  · simp [hk]
  · split
    · simp [hk]
    · split <;> rename_i h <;> simp [outside_of_answer h, hk]
@[simp] theorem writeConcluded_outside (w : WriteState) (s : State) : (writeConcluded k w s).outside K = s.outside K := by
  simp [writeConcluded, hk]
@[simp] theorem cardResultFrame_outside (r : CardOutcome) (card counter : Nat) (s : State) :
    (cardResultFrame k r card counter s).outside K = s.outside K := by
  unfold cardResultFrame; repeat' split
  all_goals simp [hk]
@[simp] theorem enterPaying_outside (s : State) : (enterPaying k s).outside K = s.outside K := by simp [enterPaying, hk]
@[simp] theorem paidUp_outside (s : State) : (paidUp k s).outside K = s.outside K := by
  unfold paidUp; split <;> simp [hk]
@[simp] theorem creditNotice_outside (t : CoinType) (v : Nat) (s : State) : (creditNotice k t v s).outside K = s.outside K := by
  simp only [creditNotice]; repeat' split
  all_goals simp [hk]
@[simp] theorem landingNotice_outside (s : State) : (landingNotice k s).outside K = s.outside K := by
  unfold landingNotice; split <;> simp [hk]
@[simp] theorem cancelPaying_outside (cause : Message) (s : State) : (cancelPaying k cause s).outside K = s.outside K := by
  simp only [cancelPaying]; split <;> simp [hk]
@[simp] theorem landedFrame_outside (d : Dest) (s : State) : (landedFrame k d s).outside K = s.outside K := by
  unfold landedFrame
  split
  · simp [hk]
  · simp only [updCoin_outside hk, landingNotice_outside hk]; split <;> simp [hk]
@[simp] theorem reprice_outside (s : State) : (reprice k s).outside K = s.outside K := by simp [reprice, hk]
@[simp] theorem applySelect_outside (i : SelectItem) (s : State) : (applySelect k i s).outside K = s.outside K := by
  simp [applySelect, hk]
@[simp] theorem setCard_outside (c : Option CardImage) (s : State) : (setCard k c s).outside K = s.outside K := by simp [setCard, hk]
theorem startSession_outside {first : State → State} (h : ∀ t, (first t).outside K = t.outside K) (s : State) :
    (startSession k first s).outside K = s.outside K := by
  unfold startSession; repeat' split
  all_goals simp [h, hk]
@[simp] theorem endWithoutRecord_outside (s : State) : (endWithoutRecord k s).outside K = s.outside K := by
  simp [endWithoutRecord, hk]
@[simp] theorem sessionGranted_outside (auth : AuthState) (held : Nat) (s : State) :
    (sessionGranted k auth held s).outside K = s.outside K := by simp [sessionGranted, hk]
@[simp] theorem sessionDenied_outside (m : Message) (s : State) : (sessionDenied k m s).outside K = s.outside K := by
  simp [sessionDenied, hk]
@[simp] theorem decideOffline_outside (s : State) : (decideOffline k s).outside K = s.outside K := by
  unfold decideOffline
  split
  · split <;> rename_i h <;> simp [outside_of_answer h, hk]
  · rfl
@[simp] theorem authorise_outside (s : State) : (authorise k s).outside K = s.outside K := by
  simp only [authorise]; repeat' split
  all_goals simp [hk]
@[simp] theorem enterAuthorising_outside (s : State) : (enterAuthorising k s).outside K = s.outside K := by
  simp [enterAuthorising, hk]
@[simp] theorem cancelAuthorising_outside (s : State) : (cancelAuthorising k s).outside K = s.outside K := by
  simp [cancelAuthorising, hk]
@[simp] theorem authorisationExpired_outside (s : State) : (authorisationExpired k s).outside K = s.outside K := by
  simp [authorisationExpired, hk]
@[simp] theorem stopListHit_outside (n : Nat) (s : State) : (stopListHit n k s).outside K = s.outside K := by
  simp only [stopListHit]; repeat' split
  all_goals simp [hk]
@[simp] theorem afterConfirm_outside (s : State) : (afterConfirm k s).outside K = s.outside K := by
  simp only [afterConfirm]; repeat' split
  all_goals simp [hk]
@[simp] theorem confirmReserved_outside (s : State) : (confirmReserved k s).outside K = s.outside K := by
  unfold confirmReserved
  split <;> rename_i h
  · simp [outside_of_answer h, hk]
  · split <;> simp [outside_of_answer h, hk]
@[simp] theorem confirm_outside (s : State) : (confirm k s).outside K = s.outside K := by
  simp only [confirm]; repeat' split
  all_goals simp [hk]
@[simp] theorem keySelectFrame_outside (i : SelectItem) (s : State) : (keySelectFrame k i s).outside K = s.outside K := by
  unfold keySelectFrame; split <;> simp [startSession_outside hk, hk]
@[simp] theorem keyConfirmFrame_outside (s : State) : (keyConfirmFrame k s).outside K = s.outside K := by
  unfold keyConfirmFrame; split <;> simp [hk]
@[simp] theorem keyCancelFrame_outside (s : State) : (keyCancelFrame k s).outside K = s.outside K := by
  unfold keyCancelFrame; split <;> simp [hk]
@[simp] theorem keyReceiptFrame_outside (wanted : Bool) (s : State) : (keyReceiptFrame k wanted s).outside K = s.outside K := by
  unfold keyReceiptFrame; split <;> simp [hk]
@[simp] theorem cardImageFrame_outside (c : CardImage) (s : State) : (cardImageFrame k c s).outside K = s.outside K := by
  unfold cardImageFrame; split <;> simp [startSession_outside hk, hk]
@[simp] theorem cardRemovalFrame_outside (s : State) : (cardRemovalFrame k s).outside K = s.outside K := by
  unfold cardRemovalFrame; repeat' split
  all_goals simp [hk]
@[simp] theorem payReportFrame_outside (counts : Vector Nat 6) (s : State) :
    (payReportFrame k counts s).outside K = s.outside K := by
  simp only [payReportFrame]; split <;> simp [hk]
@[simp] theorem payoutExpired_outside (s : State) : (payoutExpired k s).outside K = s.outside K := by simp [payoutExpired, hk]
@[simp] theorem payTaken_outside (s : State) : (payTaken k s).outside K = s.outside K := by
  unfold payTaken; split <;> simp [hk]
@[simp] theorem payNotTaken_outside (s : State) : (payNotTaken k s).outside K = s.outside K := by
  unfold payNotTaken; split <;> simp [hk]
@[simp] theorem escrowTakenFor_outside (s : State) : (escrowTakenFor k s).outside K = s.outside K := by
  unfold escrowTakenFor; split <;> rename_i h <;> simp [outside_of_answer h, hk]
@[simp] theorem escrowNotTakenFor_outside (s : State) : (escrowNotTakenFor k s).outside K = s.outside K := by
  unfold escrowNotTakenFor; split <;> rename_i h <;> simp [outside_of_answer h, hk]
@[simp] theorem cardWriteNotTaken_outside (s : State) : (cardWriteNotTaken k s).outside K = s.outside K := by
  unfold cardWriteNotTaken; split <;> simp [hk]
@[simp] theorem strandSession_outside (s : State) : (strandSession k s).outside K = s.outside K := by
  simp only [strandSession, settleRecord_outside hk]; repeat' split
  all_goals simp [hk]
@[simp] theorem sessionAbsence_outside (s : State) : (sessionAbsence k s).outside K = s.outside K := by
  unfold sessionAbsence; split <;> simp [hk]
@[simp] theorem sessionRestart_outside (s : State) : (sessionRestart k s).outside K = s.outside K := by
  simp only [sessionRestart, updSess_outside hk]; split <;> simp [hk]
@[simp] theorem inactivityExpired_outside (s : State) : (inactivityExpired k s).outside K = s.outside K := by
  unfold inactivityExpired; split <;> simp [hk]
@[simp] theorem setService_outside (f : Service → Service) (s : State) : (setService k f s).outside K = s.outside K := by
  simp only [setService]; split <;> simp [hk]
@[simp] theorem serviceChanged_outside (v : ServiceIn) (s : State) : (serviceChanged k v s).outside K = s.outside K := by
  simp [serviceChanged, hk]
@[simp] theorem modeShownAt_outside (s : State) : (modeShownAt k s).outside K = s.outside K := by
  unfold modeShownAt; split <;> simp [hk]

/-! ### The Loop Controllers -/

@[simp] theorem reportTaken_outside (c : Cmd) (s : State) : (reportTaken k c s).outside K = s.outside K := by
  unfold reportTaken; split <;> simp [hk]
@[simp] theorem takeHead_outside (a : Bool) (s : State) : (takeHead k a s).outside K = s.outside K := by
  unfold takeHead; repeat' split
  all_goals simp [hk]
@[simp] theorem reportNotTaken_outside (c : Cmd) (s : State) : (reportNotTaken k c s).outside K = s.outside K := by
  unfold reportNotTaken; split <;> simp [hk]
@[simp] theorem dropQueue_outside (s : State) : (dropQueue k s).outside K = s.outside K :=
  (foldl_keeps (fun c t => reportNotTaken k c t) (fun t => t.outside K) (fun c t => reportNotTaken_outside hk c t) _ _).trans (by simp [hk])
@[simp] theorem becomeAbsent_outside (s : State) : (becomeAbsent k s).outside K = s.outside K := by simp [becomeAbsent, hk]
@[simp] theorem becomePresent_outside (s : State) : (becomePresent k s).outside K = s.outside K := by simp [becomePresent, hk]
@[simp] theorem missAt_outside (s : State) : (missAt k s).outside K = s.outside K := by
  unfold missAt; repeat' split
  all_goals simp [hk]
@[simp] theorem acknowledge_outside (pk : PollKind) (a : Bool) (s : State) : (acknowledge k pk a s).outside K = s.outside K := by
  simp only [acknowledge]; repeat' split
  all_goals simp [hk]
@[simp] theorem doorChanged_outside (v : DoorIn) (s : State) : (doorChanged k v s).outside K = s.outside K := by
  unfold doorChanged; split <;> simp [hk]
@[simp] theorem handChanges_outside (old new : KLink) (s : State) : (handChanges k old new s).outside K = s.outside K := by
  simp only [handChanges]; repeat' split
  all_goals simp [hk]
@[simp] theorem statusFrame_outside (d : DoorIn) (c : CashboxIn) (p : PaperIn) (v : ServiceIn) (s : State) :
    (statusFrame d c p v k s).outside K = s.outside K := by simp [statusFrame, hk]
@[simp] theorem inputsReset_outside (s : State) : (inputsReset k s).outside K = s.outside K := by simp [inputsReset, hk]

end

/-! ### What is done at several kiosks, or at one that the state names -/

@[simp] theorem linkLoss_outside (s : State) : (linkLoss s).outside .univ = s.outside .univ :=
  foldl_keeps (fun (e : AuthEntry) t => decideOffline e.kiosk ((conclude e.kiosk .linkLoss (unlist e.kiosk t)).updSess e.kiosk
    (fun x => { x with tAuthorisation := none }))) (fun t => t.outside .univ) (fun _ _ => by simp) s.cards.authList s
@[simp] theorem pollPresent_outside (l : LoopId) (k : Kiosk) (round : List Kiosk) (fresh : Bool) (s : State) :
    (pollPresent l k round fresh s).outside .univ = s.outside .univ := by simp [pollPresent]
@[simp] theorem pollAbsent_outside (l : LoopId) (k : Kiosk) (s : State) : (pollAbsent l k s).outside .univ = s.outside .univ := by
  simp [pollAbsent]
@[simp] theorem newRound_outside (l : LoopId) (s : State) : (newRound l s).outside .univ = s.outside .univ := by
  simp only [newRound]; repeat' split
  all_goals simp
@[simp] theorem nextPoll_outside (l : LoopId) (s : State) : (nextPoll l s).outside .univ = s.outside .univ := by
  unfold nextPoll; repeat' split
  all_goals simp
@[simp] theorem startLoop_outside (l : LoopId) (s : State) : (startLoop l s).outside .univ = s.outside .univ := by
  unfold startLoop; split <;> simp
@[simp] theorem startLoops_outside (s : State) : (startLoops s).outside .univ = s.outside .univ := by simp [startLoops]
@[simp] theorem missExchange_outside (l : LoopId) (s : State) : (missExchange l s).outside .univ = s.outside .univ := by
  unfold missExchange; split <;> simp
@[simp] theorem joinRotation_outside (k : Kiosk) (s : State) : (joinRotation k s).outside .univ = s.outside .univ := by
  simp [joinRotation]
@[simp] theorem configureKiosk_outside (k : Kiosk) (s : State) : (configureKiosk k s).outside .univ = s.outside .univ := by
  simp [configureKiosk]
@[simp] theorem leaveSchedule_outside (k : Kiosk) (s : State) : (leaveSchedule k s).outside .univ = s.outside .univ := by
  unfold leaveSchedule; repeat' split
  all_goals simp
@[simp] theorem unconfigureKiosk_outside (k : Kiosk) (s : State) : (unconfigureKiosk k s).outside .univ = s.outside .univ := by
  simp [unconfigureKiosk]
@[simp] theorem changeMode_outside (m : PartMode) (s : State) : (changeMode m s).outside .univ = s.outside .univ :=
  foldl_keeps (fun k t => modeShownAt k t) (fun t => t.outside .univ) (fun _ _ => by simp) allKiosks _
@[simp] theorem clearEvents_outside (named : List EventKind) (s : State) (K : Finset Kiosk) :
    (clearEvents named s).outside K = s.outside K := by
  simp only [clearEvents]
  rw [foldl_keeps (fun e t => raiseLevel e t) (fun t => t.outside K) (fun _ _ => by simp),
    foldl_keeps (fun e t => clearEvent e t) (fun t => t.outside K) (fun _ _ => rfl)]
theorem atEveryKiosk_outside {f : Kiosk → State → State} (h : ∀ k t, (f k t).outside .univ = t.outside .univ) (s : State) :
    (atEveryKiosk f s).outside .univ = s.outside .univ := foldl_keeps f (fun t => t.outside .univ) h allKiosks s

/-! ### The delivery of a reply (R4) -/

theorem deliverReply_outside (i : Instr) (k : Kiosk) (s : State) : (deliverReply i k s).outside .univ = s.outside .univ := by
  unfold deliverReply; split <;> simp
theorem deliverRaw_outside (kind : Byte) (payload : List Byte) (k : Kiosk) (s : State) :
    (deliverRaw kind payload k s).outside .univ = s.outside .univ := by
  unfold deliverRaw; split <;> simp [deliverReply_outside]
theorem deliverIf_outside {f : Kiosk → State → State} (h : ∀ k t, (f k t).outside .univ = t.outside .univ) (good : Bool)
    (k : Kiosk) (s : State) : (deliverIf good f k s).outside .univ = s.outside .univ := by
  unfold deliverIf; split <;> simp [h]
theorem goodReply_outside {deliver : Kiosk → State → State} (h : ∀ k t, (deliver k t).outside .univ = t.outside .univ)
    (l : LoopId) (a : Bool) (s : State) : (goodReply l a deliver s).outside .univ = s.outside .univ := by
  unfold goodReply; repeat' split
  all_goals simp [h]

/-- A good reply of any row is a delivery that leaves the tables and the clock alone (R4). -/
theorem exec_reply_outside {i : Instr} {l : LoopId} {a : Bool} (hi : i.replyLine = some (l, a)) {s t : State}
    (h : exec i s = .next t) : t.outside .univ = s.outside .univ := by
  have key : ∃ deliver : Kiosk → State → State, exec i s = .next (goodReply l a deliver s) ∧
      ∀ k u, (deliver k u).outside .univ = u.outside .univ := by
    cases i <;> cases hi <;> exact ⟨_, rfl, fun k u => by simp [deliverIf_outside, deliverRaw_outside]⟩
  obtain ⟨deliver, he, hd⟩ := key
  cases he.symm.trans h
  exact goodReply_outside hd l a s

end Sys2Proof.Machine
end

section
/-! SUPPORT. The stop-list (R122): its requests, and that no other command moves it, so that every step keeps it an ascending
set of at most 4,096 numbers without 0. -/

namespace Sys2Proof.Machine

/-! ### The list itself (R122) -/

theorem Cards.stopWf_congr {c d : Cards} (h : d.stopList = c.stopList) : d.stopWf ↔ c.stopWf := by
  rw [Cards.stopWf, Cards.stopWf, h]

theorem mem_insertStop {n m : Nat} {l : List Nat} : m ∈ insertStop n l ↔ m = n ∨ m ∈ l := by
  induction l with
  | nil => simp [insertStop]
  | cons x xs ih =>
    unfold insertStop
    split
    · simp
    · split
      next h => simp [h]
      next => simp only [List.mem_cons, ih]; tauto

theorem length_insertStop {n : Nat} {l : List Nat} (h : n ∉ l) : (insertStop n l).length = l.length + 1 := by
  induction l with
  | nil => rfl
  | cons x xs ih =>
    obtain ⟨hx, hxs⟩ := not_or.mp (mt List.mem_cons.mpr h)
    unfold insertStop
    split
    · rfl
    · rw [List.length_cons, ih hxs, List.length_cons]

/-- A number enters an ascending list at its place. -/
theorem stopSorted_insertStop {n : Nat} {l : List Nat} (h : stopSorted l) : stopSorted (insertStop n l) := by
  induction l with
  | nil => exact List.pairwise_singleton _ n
  | cons x xs ih =>
    obtain ⟨hx, hxs⟩ := List.pairwise_cons.mp h
    unfold insertStop
    split
    next hlt => exact List.pairwise_cons.mpr ⟨List.forall_mem_cons.mpr ⟨hlt, fun m hm => hlt.trans (hx m hm)⟩, h⟩
    next hge =>
      split
      next => exact h
      next hne =>
        refine List.pairwise_cons.mpr ⟨fun m hm => ?_, ih hxs⟩
        obtain rfl | hm := mem_insertStop.mp hm
        · omega
        · exact hx m hm

theorem stopWf_insertStop {c : Cards} (h : c.stopWf) {n : Nat} (h0 : n ≠ 0) (hn : n ∉ c.stopList)
    (hroom : c.stopList.length < Config.stopListMax) : ({ c with stopList := insertStop n c.stopList } : Cards).stopWf := by
  obtain ⟨hsorted, -, hzero⟩ := h
  refine ⟨stopSorted_insertStop hsorted, (length_insertStop hn).trans_le hroom, fun hz => ?_⟩
  obtain hz | hz := mem_insertStop.mp hz
  · exact h0 hz.symm
  · exact hzero hz

theorem stopWf_filter {c : Cards} (h : c.stopWf) (p : Nat → Bool) :
    ({ c with stopList := c.stopList.filter p } : Cards).stopWf :=
  ⟨h.1.filter p, (List.length_filter_le p _).trans h.2.1, fun hz => h.2.2 (List.mem_of_mem_filter hz)⟩

theorem stopWf_nil (c : Cards) : ({ c with stopList := [] } : Cards).stopWf :=
  ⟨List.Pairwise.nil, Nat.zero_le _, List.not_mem_nil⟩

/-! ### The clock, the banks and the coin table leave the stop-list -/

theorem stopList_of_univ {s t : State} (h : t.outside .univ = s.outside .univ) : t.cards.stopList = s.cards.stopList :=
  stopList_of_outside h

@[simp] theorem clearDaily_stopList (s : State) : (clearDaily s).cards.stopList = s.cards.stopList :=
  foldl_keeps (fun k t => t.setDaily k _) (fun t => t.cards.stopList) (fun _ _ => rfl) allKiosks s
@[simp] theorem judgeRoll_stopList (s : State) : (judgeRoll s).cards.stopList = s.cards.stopList := by
  unfold judgeRoll; split <;> simp [dayRoll, clearOffline]
@[simp] theorem makeSwitch_stopList (i : BankId) (s : State) : (makeSwitch i s).cards.stopList = s.cards.stopList := by
  simp [makeSwitch]
@[simp] theorem judgeSwitch_stopList (s : State) : (judgeSwitch s).cards.stopList = s.cards.stopList := by
  unfold judgeSwitch; repeat' split
  all_goals simp
@[simp] theorem clockTo_stopList (d : DateTime) (s : State) : (clockTo d s).cards.stopList = s.cards.stopList := by simp [clockTo]
@[simp] theorem clockTick_stopList (s : State) : (clockTick s).cards.stopList = s.cards.stopList := by
  simp only [clockTick]; repeat' split
  all_goals simp
@[simp] theorem setClock_stopList (d : DateTime) (s : State) : (setClock d s).cards.stopList = s.cards.stopList := by
  unfold setClock; split <;> simp
@[simp] theorem clockAfterRestart_stopList (n : Nat) (s : State) :
    (clockAfterRestart n s).cards.stopList = s.cards.stopList := by
  unfold clockAfterRestart; split <;> simp
@[simp] theorem writeCoin_stopList (t : CoinType) (e : Option CoinEntry) (s : State) :
    (writeCoin t e s).cards.stopList = s.cards.stopList := by
  rw [writeCoin, recomputeAll_cards]
  exact foldl_keeps (fun k x => tableChangedAt k x) (fun x => x.cards.stopList)
    (fun k x => stopList_of_univ (tableChangedAt_outside (Finset.mem_univ k) x)) allKiosks _

/-! ### Restarts (R188) -/

@[simp] theorem cardsRestart_outside (s : State) : (cardsRestart s).outside .univ = s.outside .univ := by
  rw [cardsRestart, atEveryKiosk_outside (by simp)]
  simp [State.outside]

@[simp] theorem endRestart_stopList (n : Nat) (s : State) : (endRestart n s).cards.stopList = s.cards.stopList := by
  rw [endRestart, stopList_of_univ (startLoops_outside _), recomputeAll_cards,
    foldl_keeps (fun e t => raiseLevel e t) (fun t => t.cards.stopList) (fun _ _ => stopList_of_univ (by simp)),
    clockAfterRestart_stopList]

/-- A warm restart keeps the stop-list (R139). -/
theorem warmRestart_stopList (c : RestartCause) (w : WarmStart) (s : State) :
    (warmRestart c w s).cards.stopList = s.cards.stopList := by
  rw [warmRestart, endRestart_stopList]
  refine stopList_of_univ ?_
  rw [atEveryKiosk_outside (by simp [displayRestart]), atEveryKiosk_outside (by simp), atEveryKiosk_outside (by simp),
    atEveryKiosk_outside (by simp), cardsRestart_outside, atEveryKiosk_outside (by simp)]
  rfl

/-! ### The handlers that leave the stop-list -/

/-- A handler that leaves the stop-list alone. -/
def Handler.KeepsStopList (h : Handler) : Prop := ∀ s, (h s).1.cards.stopList = s.cards.stopList

theorem sized_keepsStopList {α : Type} (l : List α) (n : Nat) {h : Handler} (hh : h.KeepsStopList) :
    (sized l n h).KeepsStopList := by
  intro s; unfold sized; split
  · exact hh s
  · rfl
theorem bankedWrite_keepsStopList (bank : Byte) (f : Bank → Except Status Bank) : (bankedWrite bank f).KeepsStopList := by
  intro s; simp only [bankedWrite]; repeat' split
  all_goals rfl
theorem kioskControl_keepsStopList (kiosk : Byte) (refused : Kiosk → State → Bool) {act : Kiosk → State → State}
    (h : ∀ k t, (act k t).outside .univ = t.outside .univ) : (kioskControl kiosk refused act).KeepsStopList := by
  intro s; refine stopList_of_univ ?_; simp only [kioskControl]; repeat' split
  all_goals simp [h]
theorem doClockSet_keepsStopList (f : DateTimeField) : (doClockSet f).KeepsStopList := by
  intro s; unfold doClockSet; split <;> simp
theorem doWriteLoop_keepsStopList (i r e : Byte) : (doWriteLoop i r e).KeepsStopList := by
  intro s; unfold doWriteLoop; repeat' split
  all_goals simp
theorem doWriteKiosk_keepsStopList (i c : Byte) : (doWriteKiosk i c).KeepsStopList := by
  intro s; refine stopList_of_univ ?_; unfold doWriteKiosk; repeat' split
  all_goals simp
theorem doWriteCalib_keepsStopList (i : Byte) (u : CalibUnit) : (doWriteCalib i u).KeepsStopList := by
  intro s; unfold doWriteCalib; repeat' split
  all_goals simp
theorem doWriteCoin_keepsStopList (i : Byte) (u : CoinUnit) : (doWriteCoin i u).KeepsStopList := by
  intro s; unfold doWriteCoin; repeat' split
  all_goals simp
theorem doWriteTube_keepsStopList (i t : Byte) (u : TubeUnit) : (doWriteTube i t u).KeepsStopList := by
  intro s; refine stopList_of_univ ?_; simp only [doWriteTube]; repeat' split
  all_goals simp
theorem doWriteSettings_keepsStopList (i : Byte) (v : Half) : (doWriteSettings i v).KeepsStopList := by
  intro s; simp only [doWriteSettings]; repeat' split
  all_goals simp only [refuse_state, taken_state]
  split <;> simp
theorem doWriteTemplate_keepsStopList (i p : Byte) (u : TemplateUnit) : (doWriteTemplate i p u).KeepsStopList := by
  refine sized_keepsStopList _ _ fun s => ?_
  repeat' split
  all_goals rfl
theorem doReadLoop_keepsStopList (i : Byte) : (doReadLoop i).KeepsStopList := by
  intro s; unfold doReadLoop; split <;> rfl
theorem doReadKiosk_keepsStopList (i : Byte) : (doReadKiosk i).KeepsStopList := by
  intro s; unfold doReadKiosk; split <;> rfl
theorem doReadCalib_keepsStopList (i : Byte) : (doReadCalib i).KeepsStopList := by
  intro s; unfold doReadCalib; split <;> rfl
theorem doReadCoin_keepsStopList (i : Byte) : (doReadCoin i).KeepsStopList := by
  intro s; unfold doReadCoin; split <;> rfl
theorem doReadTube_keepsStopList (i : Byte) : (doReadTube i).KeepsStopList := by
  intro s; unfold doReadTube; split <;> rfl
theorem doReadTemplate_keepsStopList (i p : Byte) : (doReadTemplate i p).KeepsStopList := by
  intro s; unfold doReadTemplate; split <;> rfl
theorem doReadBanked_keepsStopList (t : BankedTable) (b i : Byte) : (doReadBanked t b i).KeepsStopList := by
  intro s; unfold doReadBanked; repeat' split
  all_goals rfl
theorem doBankSwitch_keepsStopList (b : Byte) (m : MinuteField) : (doBankSwitch b m).KeepsStopList := by
  intro s; simp only [doBankSwitch]; repeat' split
  all_goals simp only [refuse_state, taken_state]
  split <;> simp
theorem doSwitchCancel_keepsStopList : doSwitchCancel.KeepsStopList := by
  intro s; unfold doSwitchCancel; split <;> rfl
theorem doJournalRead_keepsStopList : doJournalRead.KeepsStopList := by
  intro s; unfold doJournalRead; split <;> rfl
theorem doJournalPop_keepsStopList : doJournalPop.KeepsStopList := by
  intro s; unfold doJournalPop; split <;> rfl
theorem doAuthAnswer_keepsStopList (k : Byte) (n : Half) (a d : Byte) : (doAuthAnswer k n a d).KeepsStopList := by
  intro s; refine stopList_of_univ ?_; simp only [doAuthAnswer]; repeat' split
  all_goals simp
theorem doEventsClear_keepsStopList (w : Word) : (doEventsClear w).KeepsStopList := by
  intro s; refine stopList_of_univ ?_; unfold doEventsClear; split <;> simp
theorem doEventsMask_keepsStopList (w : Word) : (doEventsMask w).KeepsStopList := by
  intro s; unfold doEventsMask; split <;> rfl
theorem doKioskRead_keepsStopList (k : Byte) : (doKioskRead k).KeepsStopList := by
  intro s; unfold doKioskRead; split <;> rfl
theorem doFloatSet_keepsStopList (v : Triple) : (doFloatSet v).KeepsStopList := by
  intro s; refine stopList_of_univ ?_; unfold doFloatSet; repeat' split
  all_goals simp [setFloat]
theorem doModeLoading_keepsStopList : doModeLoading.KeepsStopList := by
  intro s; refine stopList_of_univ ?_; unfold doModeLoading; repeat' split
  all_goals simp
theorem doModeSelling_keepsStopList : doModeSelling.KeepsStopList := by
  intro s; refine stopList_of_univ ?_; unfold doModeSelling; repeat' split
  all_goals simp [incomplete]
theorem doModeSuspended_keepsStopList : doModeSuspended.KeepsStopList := by
  intro s; refine stopList_of_univ ?_; unfold doModeSuspended; repeat' split
  all_goals simp

/-! ### The stop-list's own requests (R122, R123) -/

/-- A handler that keeps the stop-list an ascending set within its bound. -/
def Handler.KeepsStopWf (h : Handler) : Prop := ∀ s, s.cards.stopWf → (h s).1.cards.stopWf

theorem Handler.KeepsStopList.keepsStopWf {h : Handler} (hh : h.KeepsStopList) : h.KeepsStopWf :=
  fun s hs => (Cards.stopWf_congr (hh s)).mpr hs

theorem stopListed_iff {s : State} {n : Nat} : s.stopListed n = true ↔ n ∈ s.cards.stopList := List.contains_iff_mem

/-- The sessions that a number meets leave the list as it was written (R123). -/
theorem foldl_stopListHit_stopList (n : Nat) (s : State) :
    (allKiosks.foldl (fun t k => stopListHit n k t) s).cards.stopList = s.cards.stopList :=
  foldl_keeps (fun k t => stopListHit n k t) (fun t => t.cards.stopList) (fun _ _ => stopList_of_univ (by simp)) allKiosks s

theorem doStoplistAdd_keepsStopWf (number : Word) : (doStoplistAdd number).KeepsStopWf := by
  intro s hs
  simp only [doStoplistAdd]
  split
  · exact hs
  next h0 =>
    split
    · exact hs
    next hn =>
      split
      · exact hs
      next hroom =>
        rw [taken_state, Cards.stopWf_congr (foldl_stopListHit_stopList _ _)]
        exact stopWf_insertStop hs h0 (mt stopListed_iff.mpr hn) (Nat.lt_of_not_le hroom)

theorem doStoplistRemove_keepsStopWf (number : Word) : (doStoplistRemove number).KeepsStopWf := by
  intro s hs
  simp only [doStoplistRemove]
  repeat' split
  · exact hs
  · exact stopWf_filter hs _
  · exact hs

/-- Every request's handler keeps R122: only the three requests of the stop-list move it. -/
theorem handlerOf_keepsStopWf {i : Instr} {h : Handler} (hi : handlerOf i = some h) : h.KeepsStopWf := by
  cases i <;> cases hi
  case stoplistAdd n => exact doStoplistAdd_keepsStopWf n
  case stoplistRemove n => exact doStoplistRemove_keepsStopWf n
  case stoplistClear => exact fun s _ => stopWf_nil s.cards
  all_goals apply Handler.KeepsStopList.keepsStopWf
  case statusRead => exact fun _ => rfl
  case clockSet d => exact doClockSet_keepsStopList d
  case tableWriteLoop i r e => exact doWriteLoop_keepsStopList i r e
  case tableWriteKiosk i c => exact doWriteKiosk_keepsStopList i c
  case tableWriteCalib i u => exact doWriteCalib_keepsStopList i u
  case tableWriteCoin i u => exact doWriteCoin_keepsStopList i u
  case tableWriteTube i t u => exact doWriteTube_keepsStopList i t u
  case tableWriteSettings i v => exact doWriteSettings_keepsStopList i v
  case tableWriteTemplate i p u => exact doWriteTemplate_keepsStopList i p u
  case tableWriteHeader b u => exact sized_keepsStopList _ _ (bankedWrite_keepsStopList _ _)
  case tableWriteProduct b i u => exact sized_keepsStopList _ _ (bankedWrite_keepsStopList _ _)
  case tableWriteFare b i c => exact sized_keepsStopList _ _ (bankedWrite_keepsStopList _ _)
  case tableWriteBand b i f => exact sized_keepsStopList _ _ (bankedWrite_keepsStopList _ _)
  case tableWriteDayplan b i u => exact sized_keepsStopList _ _ (bankedWrite_keepsStopList _ _)
  case tableWriteClass b i p => exact sized_keepsStopList _ _ (bankedWrite_keepsStopList _ _)
  case tableWriteHoliday b i u => exact bankedWrite_keepsStopList _ _
  case tableReadLoop i => exact doReadLoop_keepsStopList i
  case tableReadKiosk i => exact doReadKiosk_keepsStopList i
  case tableReadCalib i => exact doReadCalib_keepsStopList i
  case tableReadCoin i => exact doReadCoin_keepsStopList i
  case tableReadTube i => exact doReadTube_keepsStopList i
  case tableReadSettings => exact fun _ => rfl
  case tableReadTemplate i p => exact doReadTemplate_keepsStopList i p
  case tableReadBanked t b i => exact doReadBanked_keepsStopList t b i
  case bankSwitch b m => exact doBankSwitch_keepsStopList b m
  case switchCancel => exact doSwitchCancel_keepsStopList
  case journalRead => exact doJournalRead_keepsStopList
  case journalPop => exact doJournalPop_keepsStopList
  case authFetch => exact fun _ => rfl
  case authAnswer k n a d => exact doAuthAnswer_keepsStopList k n a d
  case eventsRead => exact fun _ => rfl
  case eventsClear e => exact doEventsClear_keepsStopList e
  case eventsMask e => exact doEventsMask_keepsStopList e
  case kioskControlInService k => exact kioskControl_keepsStopList k _ (by simp)
  case kioskControlOutOfService k => exact kioskControl_keepsStopList k _ (by simp)
  case kioskControlBlock k => exact kioskControl_keepsStopList k _ (by simp)
  case kioskControlRelease k => exact kioskControl_keepsStopList k _ (by simp)
  case kioskControlModeLatched k => exact kioskControl_keepsStopList k _ (by simp)
  case kioskControlModeFollowing k => exact kioskControl_keepsStopList k _ (by simp)
  case kioskRead k => exact doKioskRead_keepsStopList k
  case floatSet f => exact doFloatSet_keepsStopList f
  case modeSetLoading => exact doModeLoading_keepsStopList
  case modeSetSelling => exact doModeSelling_keepsStopList
  case modeSetSuspended => exact doModeSuspended_keepsStopList
  case restart => exact fun _ => rfl

theorem doRaw_keepsStopWf (kind : Byte) (p : List Byte) : (doRaw kind p).KeepsStopWf := by
  intro s hs
  unfold doRaw; split
  next h hi => exact handlerOf_keepsStopWf hi s hs
  next => exact hs

/-- A request whose handler keeps R122 keeps it, heard or not (R175). -/
theorem depotRequest_stopWf {h : Handler} (hh : h.KeepsStopWf) (kind : Byte) {s : State} (hs : s.cards.stopWf) :
    (depotRequest kind h s).cards.stopWf := by
  have hv : (frameForStation s).cards.stopWf := (Cards.stopWf_congr (by simp)).mpr hs
  unfold depotRequest received
  split
  · exact hs
  · simp only
    split
    · exact hv
    · exact hh _ hv

/-! ### Every step -/

/-- The link supervision of a frame for another station leaves the stop-list alone (R176). -/
theorem frameForOther_stopList (s : State) : (frameForOther s).cards.stopList = s.cards.stopList := by
  unfold frameForOther; split <;> rfl
theorem received_noReply_stopList {f : State → State} (h : ∀ t, (f t).cards.stopList = t.cards.stopList) (s : State) :
    (received (fun t => (f t).noReply) s).cards.stopList = s.cards.stopList := by
  unfold received; split
  · rfl
  · exact h s
theorem supervisionExpired_stopList (s : State) : (supervisionExpired s).cards.stopList = s.cards.stopList := by
  unfold supervisionExpired; split
  · exact stopList_of_univ (linkLoss_outside _)
  · rfl

/-- The starts, the misses, the timers and the frames that no row reads keep R122. -/
theorem exec_event_stopWf {i : Instr} (hreq : handlerOf i = none) (hrep : i.replyLine = none) {s t : State}
    (hs : s.cards.stopWf) (h : exec i s = .next t) : t.cards.stopWf := by
  cases i <;> cases hreq <;> cases hrep <;> obtain rfl := Host.Outcome.next.inj h
  case coldStart pins => exact stopWf_nil (State.cold pins s.pending).cards
  case badKind kind p =>
    split
    · exact (Cards.stopWf_congr (received_noReply_stopList frameForStation_stopList s)).mpr hs
    · exact depotRequest_stopWf (doRaw_keepsStopWf kind p) kind hs
  all_goals refine (Cards.stopWf_congr ?_).mpr hs
  case resetPin w => exact warmRestart_stopList .pin w s
  case commandRestart w =>
    split
    · exact warmRestart_stopList .command w s
    · rfl
  case frameAbandoned l c => exact stopList_of_univ (missExchange_outside l s)
  case missNoReply l => exact stopList_of_univ (missExchange_outside l s)
  case missBadCheck l => exact stopList_of_univ (missExchange_outside l s)
  case missWrongAddress l => exact stopList_of_univ (missExchange_outside l s)
  case inactivityTimerExpiry k => exact stopList_of_univ (by split <;> simp)
  case authorisationTimerExpiry k => exact stopList_of_univ (by split <;> simp)
  case cardWriteTimerExpiry k => exact stopList_of_univ (by split <;> simp)
  case payoutTimerExpiry k => exact stopList_of_univ (by split <;> simp)
  case supervisionTimerExpiry => exact supervisionExpired_stopList s
  case holdTimerExpiry => unfold holdExpired; split <;> rfl
  case huntStepExpiry => unfold huntExpired; split <;> rfl
  case clockSecond => exact clockTick_stopList s
  case depotBadFrame => exact received_noReply_stopList (f := id) (fun _ => rfl) s
  case depotFrameOtherStation => exact received_noReply_stopList frameForOther_stopList s
  case depotFrameNoReply => exact received_noReply_stopList frameForStation_stopList s

theorem exec_stopWf {i : Instr} {s t : State} (hs : s.cards.stopWf) (h : exec i s = .next t) : t.cards.stopWf := by
  cases hreq : handlerOf i with
  | some hd =>
    obtain ⟨kind, he⟩ := exec_request hreq s
    cases he.symm.trans h
    exact depotRequest_stopWf (handlerOf_keepsStopWf hreq) kind hs
  | none =>
    cases hrep : i.replyLine with
    | some p => exact (Cards.stopWf_congr (stopList_of_univ (exec_reply_outside hrep h))).mpr hs
    | none => exact exec_event_stopWf hreq hrep hs h

/-- Settles O44: every step idles or executes one command. -/
theorem stopListKeptByEveryStep : Obligations.StopListKeptByEveryStep := by
  intro s t hs h
  unfold step at h
  split at h
  · cases h; exact hs
  · exact exec_stopWf (by exact hs) h

end Sys2Proof.Machine
end

section
/-! SUPPORT. The offline float and card table (section 7.4): what judging the float, a grant, a delivery and a restoration make of
them, and the settlement of the statements about them. -/

namespace Sys2Proof.Machine

/-! ### Judging the float (R134) -/

@[simp] theorem raiseLevel_kiosks (e : EventKind) (s : State) : (raiseLevel e s).kiosks = s.kiosks := by
  unfold raiseLevel; split <;> rfl
@[simp] theorem raiseLevel_cards (e : EventKind) (s : State) : (raiseLevel e s).cards = s.cards := by
  unfold raiseLevel; split <;> rfl
@[simp] theorem raiseLevel_journal (e : EventKind) (s : State) : (raiseLevel e s).journal = s.journal := by
  unfold raiseLevel; split <;> rfl

/-- Judging the float sets the low flag and leaves the rest of the Card Authoriser's state. -/
@[simp] theorem judgeFloat_cards (s : State) :
    (judgeFloat s).cards = { s.cards with floatLow := decide (s.cards.floatRemaining * 10 < s.cards.floatSet) } := by
  simp only [judgeFloat, raiseLevel_cards]; split <;> rfl
@[simp] theorem judgeFloat_kiosks (s : State) : (judgeFloat s).kiosks = s.kiosks := by
  simp only [judgeFloat, raiseLevel_kiosks]; split <;> rfl
@[simp] theorem judgeFloat_journal (s : State) : (judgeFloat s).journal = s.journal := by
  simp only [judgeFloat, raiseLevel_journal]; split <;> rfl
@[simp] theorem judgeFloat_kcard (s : State) (j : Kiosk) : (judgeFloat s).kcard j = s.kcard j := by
  rw [State.kcard, State.kcard, State.ctx, State.ctx, judgeFloat_kiosks]
@[simp] theorem judgeFloat_heldTotal (s : State) : (judgeFloat s).heldTotal = s.heldTotal := by simp [State.heldTotal]

/-! ### FLOAT-SET (R134) -/

/-- A request that is heard and that its handler answers (R175, R179). -/
theorem exec_answered {c : Instr} {kind : Byte} {hd : Handler} {s t : State} {st : Status} {data : List Byte} (hs : s.hears)
    (hc : exec c s = .next (depotRequest kind hd s)) (h : hd (frameForStation s) = (t, { status := st, data := data })) :
    exec c s = .next (t.withReply kind st data) := by
  rw [hc, depotRequest_heard hs, h]

theorem exec_floatSet (value : Triple) (s : State) : exec (.floatSet value) s = .next (depotRequest 0x52 (doFloatSet value) s) := rfl

/-- Settles O46: the value against the greatest float, then against the held total. -/
theorem floatSetEstablishesFloat : Obligations.FloatSetEstablishesFloat := by
  intro value s hs
  have hanswer : doFloatSet value (frameForStation s) =
      if 500000 < value.toNat then (frameForStation s, { status := .badField, data := [] })
      else if value.toNat < s.heldTotal then (frameForStation s, { status := .floatTooLow, data := [] })
      else (setFloat value.toNat (frameForStation s), { status := .ok, data := [] }) := by
    rw [doFloatSet, frameForStation_heldTotal, Config.floatMax]
    split
    · rfl
    · split <;> rfl
  refine ⟨fun hbig => exec_answered hs (exec_floatSet value s) ?_, fun hle hlow => exec_answered hs (exec_floatSet value s) ?_,
    fun hle hheld => ⟨_, exec_answered hs (exec_floatSet value s) (t := setFloat value.toNat (frameForStation s)) (st := .ok) ?_,
      ?_, ?_, ?_, ?_, ?_, ?_, withReply_reply _ _ _ _, ?_⟩⟩
  · rw [hanswer, if_pos hbig]
  · rw [hanswer, if_neg (Nat.not_lt.mpr hle), if_pos hlow]
  · rw [hanswer, if_neg (Nat.not_lt.mpr hle), if_neg (Nat.not_lt.mpr hheld)]
  all_goals simp [setFloat, State.heldTotal]

/-! ### The held total (R130) -/

/-- What a grant record holds. -/
def grantAmount : Option Grant → Nat
  | some g => g.amount
  | none => 0

/-- What the grants of the other kiosks hold. -/
def State.heldElsewhere (s : State) (k : Kiosk) : Nat := ∑ j ∈ Finset.univ.erase k, grantAmount (s.kcard j).grant

theorem heldTotal_eq (s : State) (k : Kiosk) : s.heldTotal = grantAmount (s.kcard k).grant + s.heldElsewhere k := by
  have hsum : s.heldTotal = ∑ j, grantAmount (s.kcard j).grant :=
    (Fin.sum_univ_def fun j : Kiosk => grantAmount (s.kcard j).grant).symm
  rw [hsum, State.heldElsewhere, Finset.add_sum_erase Finset.univ (fun j => grantAmount (s.kcard j).grant) (Finset.mem_univ k)]

/-! ### A kiosk's grant replaced (R131, R132) -/

/-- The float and its table replaced with the kiosk's grant, and the float judged: what a grant, a delivery and a restoration
each do. -/
def State.regrant (s : State) (k : Kiosk) (c : Cards) (g : Option Grant) : State :=
  judgeFloat (({ s with cards := c } : State).updCard k (fun x => { x with grant := g }))

section
variable (s : State) (k : Kiosk) (c : Cards) (g : Option Grant)

@[simp] theorem regrant_cards : (s.regrant k c g).cards =
    { c with floatLow := decide (c.floatRemaining * 10 < c.floatSet) } := judgeFloat_cards _
@[simp] theorem regrant_kcard : (s.regrant k c g).kcard k = { s.kcard k with grant := g } := by simp [State.regrant]
@[simp] theorem regrant_sess (j : Kiosk) : (s.regrant k c g).sess j = s.sess j := by simp [State.regrant]
@[simp] theorem regrant_journal : (s.regrant k c g).journal = s.journal := by simp [State.regrant]

/-- The held total moves by what the kiosk's grant does (R130). -/
theorem regrant_heldTotal :
    (s.regrant k c g).heldTotal + grantAmount (s.kcard k).grant = s.heldTotal + grantAmount g := by
  have helse : (s.regrant k c g).heldElsewhere k = s.heldElsewhere k :=
    Finset.sum_congr rfl fun j hj => by simp [State.regrant, Finset.ne_of_mem_erase hj]
  have hown : grantAmount ((s.regrant k c g).kcard k).grant = grantAmount g := by rw [regrant_kcard]
  rw [heldTotal_eq _ k, heldTotal_eq s k, helse, hown]
  omega

end

/-- The float and its table after a grant of `a` on a card (R131). -/
def Cards.afterGrant (c : Cards) (card a : Nat) : Cards :=
  { c with floatRemaining := c.floatRemaining - a, offline := grantEntry c.offline card a }

/-- The float and its table after a delivery (R132). -/
def Cards.afterDelivery (c : Cards) (g : Grant) : Cards :=
  { c with delivered := c.delivered + g.amount,
           offline := c.offline.map (fun e => if e.card = g.card then { e with held := e.held - g.amount } else e) }

/-- An entry that gives up a restored amount (R132). -/
def OfflineEntry.giveBack (a : Nat) (e : OfflineEntry) : OfflineEntry := { e with total := e.total - a, held := e.held - a }

/-- The float and its table after a restoration (R132). -/
def Cards.afterRestoration (c : Cards) (g : Grant) : Cards :=
  { c with floatRemaining := c.floatRemaining + g.amount, offline := changeEntry c.offline g.card (OfflineEntry.giveBack g.amount) }

theorem deliverGrant_none {k : Kiosk} {s : State} (h : (s.kcard k).grant = none) : deliverGrant k s = s := by
  simp only [deliverGrant, h]
theorem restoreGrant_none {k : Kiosk} {s : State} (h : (s.kcard k).grant = none) : restoreGrant k s = s := by
  simp only [restoreGrant, h]
theorem deliverGrant_some {k : Kiosk} {s : State} {g : Grant} (h : (s.kcard k).grant = some g) :
    deliverGrant k s = s.regrant k (s.cards.afterDelivery g) none := by
  simp only [deliverGrant, h, State.regrant, Cards.afterDelivery]
theorem restoreGrant_some {k : Kiosk} {s : State} {g : Grant} (h : (s.kcard k).grant = some g) :
    restoreGrant k s = s.regrant k (s.cards.afterRestoration g) none := by
  simp only [restoreGrant, h, State.regrant, Cards.afterRestoration]
  rfl

/-- After a restoration the kiosk holds no grant (R132). -/
@[simp] theorem restoreGrant_grant (k : Kiosk) (s : State) : ((restoreGrant k s).kcard k).grant = none := by
  cases h : (s.kcard k).grant with
  | none => rw [restoreGrant_none h, h]
  | some g => simp [restoreGrant_some h]

/-! ### The table at a restoration (R132) -/

section
variable {l : List OfflineEntry} {card : Nat} {f : OfflineEntry → OfflineEntry}

theorem mem_changeEntry_own {e : OfflineEntry} (he : e ∈ l) (hc : e.card = card) (ht : (f e).total ≠ 0) :
    f e ∈ changeEntry l card f :=
  List.mem_filter.mpr ⟨List.mem_map.mpr ⟨e, he, if_pos hc⟩, by simpa using ht⟩

/-- An entry of another card stands in the changed table as it did before. -/
theorem mem_changeEntry_other {e : OfflineEntry} (hf : ∀ x, (f x).card = x.card) (hc : e.card ≠ card) (ht : e.total ≠ 0) :
    e ∈ changeEntry l card f ↔ e ∈ l := by
  simp only [changeEntry, List.mem_filter, List.mem_map, decide_eq_true_eq, ht, ne_eq, not_false_eq_true, and_true]
  constructor
  · rintro ⟨x, hx, rfl⟩
    split at hc
    next hxc => exact absurd ((hf x).trans hxc) hc
    next hxc => rwa [if_neg hxc]
  · exact fun he => ⟨e, he, if_neg hc⟩

theorem total_ne_zero_of_mem_changeEntry {e : OfflineEntry} (he : e ∈ changeEntry l card f) : e.total ≠ 0 := by
  simpa using (List.mem_filter.mp he).2

end

/-! ### The offline rule (R131) -/

theorem any_card_iff {l : List OfflineEntry} {card : Nat} :
    l.any (fun e => decide (e.card = card)) = true ↔ ∃ e ∈ l, e.card = card := by simp

section
variable {s : State} {card a : Nat}

theorem offlineDenial_tableFull (hnew : ¬ ∃ e ∈ s.cards.offline, e.card = card) (hfull : 64 ≤ s.cards.offline.length) :
    offlineDenial s card a = some .offlineTableFull :=
  if_pos ⟨Bool.eq_false_iff.mpr (mt any_card_iff.mp hnew), hfull⟩

/-- Past the first test the per-card limit and the float decide. -/
theorem offlineDenial_of_room (hroom : (∃ e ∈ s.cards.offline, e.card = card) ∨ s.cards.offline.length < 64) :
    (s.activeHeader = none → offlineDenial s card a = some .offlineLimit) ∧
      ∀ h, s.activeHeader = some h → offlineDenial s card a =
        if h.offlineLimit < offlineTotal s.cards.offline card + a then some .offlineLimit
        else if s.cards.floatRemaining < a then some .floatExhausted
        else none := by
  have hpass : ¬ (s.cards.offline.any (fun e => decide (e.card = card)) = false ∧
      Config.offlineTableMax ≤ s.cards.offline.length) := by
    rintro ⟨hnew, hfull⟩
    obtain hknown | hroom := hroom
    · exact Bool.eq_false_iff.mp hnew (any_card_iff.mpr hknown)
    · exact absurd hroom (Nat.not_lt.mpr hfull)
  refine ⟨fun hh => ?_, fun h hh => ?_⟩ <;> simp only [offlineDenial, if_neg hpass, hh]

/-- What the rule grants, the float can bear. -/
theorem le_float_of_granted (h : offlineDenial s card a = none) : a ≤ s.cards.floatRemaining := by
  unfold offlineDenial at h
  simp only at h
  repeat' split at h
  all_goals cases h
  exact Nat.le_of_not_lt ‹_›

theorem offlineRule_denied {m : Message} (h : offlineDenial s card a = some m) (k : Kiosk) :
    offlineRule k card a s = (judgeFloat s, some m) := by simp only [offlineRule, h]

theorem offlineRule_granted (h : offlineDenial s card a = none) (k : Kiosk) :
    offlineRule k card a s = (s.regrant k (s.cards.afterGrant card a) (some { card := card, amount := a }), none) := by
  simp only [offlineRule, h, State.regrant, Cards.afterGrant]

end

/-- A request decided by the offline rule at a kiosk without a grant leaves the float in balance (R130, R131). -/
theorem offlineRule_balance {k : Kiosk} {s : State} (hnone : (s.kcard k).grant = none) (card a : Nat) :
    let r := offlineRule k card a s
    r.1.cards.floatRemaining + r.1.heldTotal + r.1.cards.delivered = s.cards.floatRemaining + s.heldTotal + s.cards.delivered ∧
      (r.2 = none → a ≤ s.cards.floatRemaining ∧ (r.1.kcard k).grant = some { card := card, amount := a } ∧
        r.1.cards.floatRemaining = s.cards.floatRemaining - a) ∧
      (r.2 ≠ none → r.1.cards.floatRemaining = s.cards.floatRemaining ∧ (r.1.kcard k).grant = none) := by
  cases hd : offlineDenial s card a with
  | some m => simp [offlineRule_denied hd, hnone]
  | none =>
    have hle := le_float_of_granted hd
    have hheld := regrant_heldTotal s k (s.cards.afterGrant card a) (some { card := card, amount := a })
    simp only [hnone, grantAmount] at hheld
    simp only [offlineRule_granted hd, regrant_cards, regrant_kcard, Cards.afterGrant] at hheld ⊢
    exact ⟨by omega, by simpa using hle, by simp⟩

/-- Settles O45: the tests in their order, then the balance of each change of a grant. -/
theorem offlineRuleKeepsFloatInBalance : Obligations.OfflineRuleKeepsFloatInBalance := by
  refine ⟨fun card a s => ⟨offlineDenial_tableFull, fun hroom => ?_⟩, fun k s =>
    ⟨fun card a hnone => offlineRule_balance hnone card a, fun hnone => ⟨deliverGrant_none hnone, restoreGrant_none hnone⟩,
      fun g hg => ⟨?_, ?_⟩⟩⟩
  · obtain ⟨hbank, hheader⟩ := offlineDenial_of_room (a := a) hroom
    refine ⟨hbank, fun h hh => ⟨fun hlimit => (hheader h hh).trans (if_pos hlimit), fun hlimit => ?_⟩⟩
    rw [hheader h hh, if_neg (Nat.not_lt.mpr hlimit)]
    exact ⟨fun hfloat => if_pos hfloat, fun hfloat => if_neg (Nat.not_lt.mpr hfloat)⟩
  · have hheld := regrant_heldTotal s k (s.cards.afterDelivery g) none
    simp only [hg, grantAmount] at hheld
    simp only [deliverGrant_some hg, regrant_cards, regrant_kcard, Cards.afterDelivery, and_true] at hheld ⊢
    omega
  · have hheld := regrant_heldTotal s k (s.cards.afterRestoration g) none
    simp only [hg, grantAmount] at hheld
    simp only [restoreGrant_some hg, regrant_cards, regrant_kcard, Cards.afterRestoration, true_and] at hheld ⊢
    refine ⟨by omega, fun e he hc hlt => ?_, fun e hc ht => mem_changeEntry_other (fun _ => rfl) hc ht,
      fun e he => total_ne_zero_of_mem_changeEntry he⟩
    exact mem_changeEntry_own (f := OfflineEntry.giveBack g.amount) he hc (Nat.sub_ne_zero_of_lt hlt)

end Sys2Proof.Machine
end

section
/-! SUPPORT. Authorisations (section 7.3, R84): what a grant and a denial make of a session, how an answer finds its request, and
the settlement of the statement about them. -/

namespace Sys2Proof.Machine

/-! ### The authorisation list (R126, R127) -/

@[simp] theorem listed_unlist (k : Kiosk) (s : State) : (unlist k s).listed k = false := by
  simp [State.listed, unlist]

theorem listed_congr {s t : State} (h : t.cards.authList = s.cards.authList) (k : Kiosk) : t.listed k = s.listed k := by
  rw [State.listed, State.listed, h]

/-! ### A session granted and denied (R84) -/

section
variable (k : Kiosk) (s : State)

@[simp] theorem sessionGranted_sess (auth : AuthState) (held : Nat) : (sessionGranted k auth held s).sess k =
    { s.sess k with auth := auth, offlineHeld := held, tAuthorisation := none, state := .paying,
                    tInactivity := some s.settings.inactivity } := by
  simp [sessionGranted, enterPaying, startInactivity]
@[simp] theorem sessionGranted_cards (auth : AuthState) (held : Nat) : (sessionGranted k auth held s).cards = s.cards := by
  simp [sessionGranted, enterPaying, startInactivity]
@[simp] theorem sessionGranted_kcard (auth : AuthState) (held : Nat) (j : Kiosk) :
    (sessionGranted k auth held s).kcard j = s.kcard j := by
  simp [sessionGranted, enterPaying, startInactivity]
@[simp] theorem sessionGranted_journal (auth : AuthState) (held : Nat) : (sessionGranted k auth held s).journal = s.journal := by
  simp [sessionGranted, enterPaying, startInactivity]

@[simp] theorem releaseReservation_parts (j : Kiosk) :
    (releaseReservation s).sess j = s.sess j ∧ (releaseReservation s).kcard j = s.kcard j ∧
      (releaseReservation s).cards = s.cards ∧ (releaseReservation s).settings = s.settings := ⟨rfl, rfl, rfl, rfl⟩

@[simp] theorem sessionDenied_sess (m : Message) : (sessionDenied k m s).sess k =
    { s.sess k with auth := .denied, state := .selecting, tAuthorisation := none,
                    tInactivity := some s.settings.inactivity } := by
  simp [sessionDenied, startInactivity, (releaseReservation_parts s k).2.2.2]
@[simp] theorem sessionDenied_message (m : Message) : ((sessionDenied k m s).disp k).message = m := by
  simp [sessionDenied, displayOf]
@[simp] theorem sessionDenied_cards (m : Message) : (sessionDenied k m s).cards = s.cards := by
  simp [sessionDenied, startInactivity, (releaseReservation_parts s k).2.2.1]
@[simp] theorem sessionDenied_kcard (m : Message) (j : Kiosk) : (sessionDenied k m s).kcard j = s.kcard j := by
  simp [sessionDenied, startInactivity]
@[simp] theorem sessionDenied_journal (m : Message) : (sessionDenied k m s).journal = (releaseReservation s).journal := by
  simp [sessionDenied, startInactivity]

end

/-! ### Answers (R126, R128) -/

section
variable {kiosk attempt decision : Byte} {serial : Half} {k : Kiosk} {s : State} (hk : kiosk.toNat = k.val) (ha : attempt ≠ 0)
  (hd : decision.toNat ≤ 1)
include hk ha hd

/-- An answer within its ranges: of a listed request it concludes it, else it is judged by the last-request record. -/
theorem doAuthAnswer_eq : doAuthAnswer kiosk serial attempt decision s =
    if ∃ e ∈ s.cards.authList, e.kiosk = k ∧ e.serial = serial.toNat ∧ e.attempt = attempt.toNat then
      (if decision = 0 then sessionGranted k .grantedOnline 0 (conclude k .grant (unlist k s))
        else sessionDenied k .denied (conclude k .deny (unlist k s)), { status := .ok, data := [] })
    else (s, { status := unmatchedAnswer (s.kcard k).lastRequest serial.toNat attempt.toNat (decide (decision = 0)), data := [] }) := by
  have hrange : ¬ (attempt = 0 ∨ 1 < decision.toNat) := not_or.mpr ⟨ha, Nat.not_lt.mpr hd⟩
  have hkiosk : kioskOf kiosk = some k := finOf_eq hk
  simp only [doAuthAnswer, hkiosk, if_neg hrange, List.any_eq_true, decide_eq_true_eq]
  split <;> rfl

end

section
variable {r : LastRequest} {serial attempt : Nat} {grant : Bool}

theorem unmatchedAnswer_unknown (h : r.serial ≠ serial ∨ r.attempt < attempt) :
    unmatchedAnswer (some r) serial attempt grant = .noSuchRequest := by
  unfold unmatchedAnswer
  simp only
  split
  · rfl
  next hserial =>
    obtain h | h := h
    · exact absurd h hserial
    · rw [if_neg (Nat.ne_of_gt h), if_neg (Nat.not_lt.mpr h.le)]

theorem unmatchedAnswer_earlier (hserial : r.serial = serial) (h : attempt < r.attempt) :
    unmatchedAnswer (some r) serial attempt grant = .late := by
  simp [unmatchedAnswer, hserial, h, Nat.ne_of_lt h]

/-- An answer to the very request repeats its conclusion or comes late. -/
theorem unmatchedAnswer_same (hserial : r.serial = serial) (h : r.attempt = attempt) :
    unmatchedAnswer (some r) serial attempt grant = if r.conclusion = (if grant then .grant else .deny) then .ok else .late := by
  cases grant <;> simp [unmatchedAnswer, hserial, h]

end

/-! ### The authorisation timer (R127, R131) -/

/-- The state that the offline rule meets at the timer's end: the request is concluded and the timer stopped. -/
def State.timedOut (s : State) (k : Kiosk) : State :=
  (conclude k .timeout (unlist k s)).updSess k (fun x => { x with tAuthorisation := none })

section
variable {k : Kiosk} {c : CardImage} {p : PriceRecord} {amount fee : Nat} {s : State} (hc : (s.sess k).card = some c)
  (hp : (s.sess k).fixed = some p) (ht : p.detail = .topup amount fee)
include hc hp ht

theorem topupOf_timedOut : ((s.timedOut k).sess k).card = some c ∧ ((s.timedOut k).sess k).topupOf = some (amount, fee) := by
  obtain ⟨due, bank, detail⟩ := p
  cases ht
  simp [State.timedOut, Session.topupOf, conclude, unlist, hc, hp]

theorem authorisationExpired_granted (hd : offlineDenial s c.number amount = none) :
    authorisationExpired k s = sessionGranted k .grantedOffline amount ((s.timedOut k).regrant k
      ((s.timedOut k).cards.afterGrant c.number amount) (some { card := c.number, amount := amount })) := by
  obtain ⟨hcard, htopup⟩ := topupOf_timedOut hc hp ht
  have hgrant := offlineRule_granted (s := s.timedOut k) hd k
  show decideOffline k (s.timedOut k) = _
  simp only [decideOffline, hcard, htopup, hgrant]

theorem authorisationExpired_denied {m : Message} (hd : offlineDenial s c.number amount = some m) :
    authorisationExpired k s = sessionDenied k m (judgeFloat (s.timedOut k)) := by
  obtain ⟨hcard, htopup⟩ := topupOf_timedOut hc hp ht
  have hdenied := offlineRule_denied (s := s.timedOut k) hd k
  show decideOffline k (s.timedOut k) = _
  simp only [decideOffline, hcard, htopup, hdenied]

end

theorem exec_authFetch (s : State) : exec .authFetch s = .next (depotRequest 0x4B doAuthFetch s) := rfl
theorem exec_authAnswer (kiosk : Byte) (serial : Half) (attempt decision : Byte) (s : State) :
    exec (.authAnswer kiosk serial attempt decision) s = .next (depotRequest 0x4C (doAuthAnswer kiosk serial attempt decision) s) := rfl

section
variable {kiosk attempt decision : Byte} {serial : Half} {k : Kiosk} {s : State} (hs : s.hears) (hk : kiosk.toNat = k.val)
  (ha : attempt ≠ 0)
include hs hk ha

/-- An answer to a listed request grants it or denies it (R126). -/
theorem exec_authAnswer_listed (hl : ∃ e ∈ s.cards.authList, e.kiosk = k ∧ e.serial = serial.toNat ∧ e.attempt = attempt.toNat) :
    let v := frameForStation s
    exec (.authAnswer kiosk serial attempt 0) s = .next
        ((sessionGranted k .grantedOnline 0 (conclude k .grant (unlist k v))).withReply 0x4C .ok []) ∧
      exec (.authAnswer kiosk serial attempt 1) s = .next
        ((sessionDenied k .denied (conclude k .deny (unlist k v))).withReply 0x4C .ok []) := by
  have hv : ∃ e ∈ (frameForStation s).cards.authList, e.kiosk = k ∧ e.serial = serial.toNat ∧ e.attempt = attempt.toNat := by
    simpa using hl
  refine ⟨exec_answered hs (exec_authAnswer ..) ?_, exec_answered hs (exec_authAnswer ..) ?_⟩
  · rw [doAuthAnswer_eq hk ha (by decide), if_pos hv, if_pos rfl]
  · rw [doAuthAnswer_eq hk ha (by decide), if_pos hv, if_neg (by decide)]

/-- An answer to no listed request changes nothing (R128). -/
theorem exec_authAnswer_unlisted
    (hl : ∀ e ∈ s.cards.authList, ¬ (e.kiosk = k ∧ e.serial = serial.toNat ∧ e.attempt = attempt.toNat)) (hd : decision.toNat ≤ 1) :
    exec (.authAnswer kiosk serial attempt decision) s = .next ((frameForStation s).withReply 0x4C
      (unmatchedAnswer (s.kcard k).lastRequest serial.toNat attempt.toNat (decide (decision = 0))) []) := by
  have hv : ¬ ∃ e ∈ (frameForStation s).cards.authList, e.kiosk = k ∧ e.serial = serial.toNat ∧ e.attempt = attempt.toNat := by
    simpa using hl
  refine exec_answered hs (exec_authAnswer ..) ?_
  rw [doAuthAnswer_eq hk ha hd, if_neg hv, frameForStation_kcard]

end

/-- The authorisation timer's end while it runs (R127). -/
theorem exec_authorisationTimerExpiry {k : Kiosk} {s : State} (h : (s.sess k).tAuthorisation.isSome = true) :
    exec (.authorisationTimerExpiry k) s = .next (authorisationExpired k s) := congrArg Host.Outcome.next (if_pos h)

/-- Settles O47: the fetch, the answer by whether its request is listed, and the timer by the offline rule. -/
theorem authorisationsConcluded : Obligations.AuthorisationsConcluded := by
  refine ⟨fun s hs => ⟨?_, fun kiosk attempt serial k hk ha => ⟨fun hl => ?_, fun hl decision hd => ?_⟩⟩,
    fun k c p amount fee s htimer _ hc hp ht => ⟨fun hd => ?_, fun m hd => ?_⟩⟩
  · refine exec_answered hs (exec_authFetch s) ?_
    simp [doAuthFetch, Config.fetchMax, byte1, beBytes]
  · obtain ⟨hgrant, hdeny⟩ := exec_authAnswer_listed hs hk ha hl
    refine ⟨⟨_, hgrant, ?_⟩, ⟨_, hdeny, ?_⟩⟩
    · simp [State.listed, unlist, conclude]
    · simp [State.listed, unlist, conclude, releaseReservation]
  · rw [exec_authAnswer_unlisted hs hk ha hl hd]
    refine ⟨fun hnone => by rw [hnone]; rfl, fun r hr => ?_⟩
    rw [hr]
    refine ⟨fun h => by rw [unmatchedAnswer_unknown h], fun hserial h => by rw [unmatchedAnswer_earlier hserial h],
      fun hserial h => ?_⟩
    rw [unmatchedAnswer_same hserial h]
    simp only [decide_eq_true_eq]
  · refine ⟨_, (exec_authorisationTimerExpiry htimer).trans (congrArg _ (authorisationExpired_granted hc hp ht hd)), ?_⟩
    simp [State.listed, State.timedOut, unlist, conclude, Cards.afterGrant]
  · refine ⟨_, (exec_authorisationTimerExpiry htimer).trans (congrArg _ (authorisationExpired_denied hc hp ht hd)), ?_⟩
    simp [State.listed, State.timedOut, unlist, conclude, releaseReservation]

end Sys2Proof.Machine
end

section
/-! SUPPORT. A session's way out of WRITING and PAYING (sections 5.5 to 5.7): what the change, the refund and a close that
follows leave of the session, and the settlement of the statement about card results. -/

namespace Sys2Proof.Machine

/-! ### The session under the Cash Unit's answers (R37, R39, R109) -/

/-- An escrow set tells the session its value at most (R37). -/
theorem setEscrow_sess (k : Kiosk) (l : List EscrowEntry) (s : State) :
    ∃ v, (setEscrow k l s).sess k = { s.sess k with escrowValue := v } := by
  simp only [setEscrow]
  split
  · exact ⟨(s.sess k).escrowValue, by simp⟩
  · exact ⟨escrowSum l, by simp⟩

@[simp] theorem holdEscrow_sess (k : Kiosk) (a : EscrowAction) (l : List EscrowEntry) (s : State) (j : Kiosk) :
    (holdEscrow k a l s).sess j = s.sess j := by simp [holdEscrow]

theorem offerEscrow_sess {k : Kiosk} {a : EscrowAction} {l : List EscrowEntry} {o : EscrowOrigin} {s t : State} {r : OfferResult}
    (h : offerEscrow k a l o s = (t, r)) (j : Kiosk) : t.sess j = s.sess j := by
  simp only [offerEscrow] at h
  split at h <;> cases h <;> simp

/-- An escrow request changes the session in its escrow value at most (R37, R39). -/
theorem requestEscrow_sess (k : Kiosk) (a : EscrowAction) (s : State) :
    ∃ v, (requestEscrow k a s).1.sess k = { s.sess k with escrowValue := v } := by
  obtain ⟨v, hempty⟩ := setEscrow_sess k [] s
  simp only [requestEscrow]
  split
  · exact ⟨(s.sess k).escrowValue, rfl⟩
  · split
    · exact ⟨v, by simp [hempty]⟩
    · split
      next t h => exact ⟨v, by rw [offerEscrow_sess h, hempty]⟩
      next t h => exact ⟨v, by rw [holdEscrow_sess, offerEscrow_sess h, hempty]⟩
      next t h =>
        obtain ⟨w, hback⟩ := setEscrow_sess k (s.cash k).escrow t
        exact ⟨w, by rw [State.sess_updCash, hback, offerEscrow_sess h, hempty]⟩

/-- A payout that is started, or not: the session changes in its payout at most (R109). -/
theorem startPayout_sess (k : Kiosk) (amount : Nat) (s : State) :
    (startPayout k amount s).sess k = s.sess k ∨ ∃ l, (startPayout k amount s).sess k =
      { s.sess k with payout := l, payoutOut := true, payTaken := false, tPayout := some Config.payoutSeconds } := by
  simp only [startPayout]
  split
  · exact .inl rfl
  · split
    · exact .inl rfl
    · have hoffer : ∀ {c : Cmd} {t : State} {r : OfferResult}, offer k c s = (t, r) → t.sess k = s.sess k := by
        intro c t r h
        rw [← offer_sess k c s k, h]
      split
      next t h => exact .inr ⟨_, by simp [registerOrder, hoffer h]; rfl⟩
      next t r _ h => exact .inl (hoffer h)

/-! ### The close (R92, R93) -/

/-- A close leaves the session IDLE with its final figures, the timers stopped, and what else it held but the escrow value. -/
theorem closeSession_sess (k : Kiosk) (s : State) :
    ∃ v, (closeSession k s).sess k =
      { ((s.sess k).closed (s.sess k).closeOutcome).stopTimers with state := .idle, escrowValue := v } := by
  have hidle : ∀ (m : Message) (t : State), (toIdle k m t).sess k = { (t.sess k).stopTimers with state := .idle } := fun m t => by
    simp [toIdle]
  have hvoucher : ∀ t : State, (if 0 < (t.sess k).voucher then raise .voucherIssued (some k) t else t).sess k = t.sess k := fun t => by
    split <;> rfl
  simp only [closeSession, hidle, settleRecord_sess]
  split
  · obtain ⟨v, hv⟩ := requestEscrow_sess k .drop (if 0 < ((s.updSess k fun x => x.closed (s.sess k).closeOutcome).sess k).voucher
      then raise .voucherIssued (some k) (s.updSess k fun x => x.closed (s.sess k).closeOutcome)
      else s.updSess k fun x => x.closed (s.sess k).closeOutcome)
    exact ⟨v, by rw [hv, hvoucher, State.sess_updSess_same]; rfl⟩
  · exact ⟨(s.sess k).escrowValue, by rw [hvoucher, State.sess_updSess_same]; rfl⟩

theorem closeIfDone_cases (k : Kiosk) (s : State) : closeIfDone k s = s ∨ closeIfDone k s = closeSession k s := by
  simp only [closeIfDone]
  split
  · exact .inr rfl
  · exact .inl rfl

/-- What a payout's end, with the close that it may bring, leaves of a session. -/
structure SettledFrom (x y : Session) : Prop where
  credit : y.credit = x.credit
  write : y.write = x.write
  purpose : y.purpose = x.purpose
  cancelCause : y.cancelCause = x.cancelCause
  tCardWrite : x.tCardWrite = none → y.tCardWrite = none

theorem closeIfDone_settled (k : Kiosk) (s : State) : SettledFrom (s.sess k) ((closeIfDone k s).sess k) := by
  obtain h | h := closeIfDone_cases k s
  · rw [h]
    exact ⟨rfl, rfl, rfl, rfl, id⟩
  · obtain ⟨v, hv⟩ := closeSession_sess k s
    rw [h, hv]
    exact ⟨rfl, rfl, rfl, rfl, fun _ => rfl⟩

/-- A session is IDLE after the end of its payout, or nothing was closed. -/
theorem closeIfDone_idle_or (k : Kiosk) (s : State) : ((closeIfDone k s).sess k).state = .idle ∨ closeIfDone k s = s := by
  obtain h | h := closeIfDone_cases k s
  · exact .inr h
  · obtain ⟨v, hv⟩ := closeSession_sess k s
    exact .inl (by rw [h, hv])

/-! ### The change and the refund (R90, R91) -/

/-- The session in DISPENSING as a payout that is started, or not, leaves it. -/
theorem startPayout_keeps (k : Kiosk) (amount : Nat) (s : State) :
    SettledFrom (s.sess k) ((startPayout k amount s).sess k) ∧ ((startPayout k amount s).sess k).state = (s.sess k).state := by
  obtain h | ⟨l, h⟩ := startPayout_sess k amount s <;> rw [h] <;> exact ⟨⟨rfl, rfl, rfl, rfl, id⟩, rfl⟩

theorem SettledFrom.trans {x y z : Session} (h : SettledFrom x y) (g : SettledFrom y z) : SettledFrom x z :=
  ⟨g.credit.trans h.credit, g.write.trans h.write, g.purpose.trans h.purpose, g.cancelCause.trans h.cancelCause,
    fun hx => g.tCardWrite (h.tCardWrite hx)⟩

@[simp] theorem restoreAtRefund_sess (k : Kiosk) (s : State) (j : Kiosk) : (restoreAtRefund k s).sess j = s.sess j := by
  simp only [restoreAtRefund]; split <;> simp

/-- What follows a session in DISPENSING when its message is shown: it stays there with the message, or closes. -/
theorem closeIfDone_after {k : Kiosk} {x : Session} {s : State} (h : SettledFrom x (s.sess k)) (hst : (s.sess k).state = .dispensing)
    (m : Message) :
    SettledFrom x ((closeIfDone k (showMessage k m s)).sess k) ∧
      (((closeIfDone k (showMessage k m s)).sess k).state = .idle ∨
        (((closeIfDone k (showMessage k m s)).sess k).state = .dispensing ∧
          ((closeIfDone k (showMessage k m s)).disp k).message = m)) := by
  have hclose := closeIfDone_settled k (showMessage k m s)
  rw [showMessage_sess] at hclose
  refine ⟨h.trans hclose, (closeIfDone_idle_or k (showMessage k m s)).imp id fun hsame => ?_⟩
  rw [hsame, showMessage_sess, showMessage_disp_same]
  exact ⟨hst, rfl⟩

/-- The change: the session goes into DISPENSING for it, and may close at once (R90). -/
theorem enterChange_settled (k : Kiosk) (s : State) :
    SettledFrom { s.sess k with purpose := .change, tCardWrite := none } ((enterChange k s).sess k) ∧
      (((enterChange k s).sess k).state = .dispensing ∨ ((enterChange k s).sess k).state = .idle) := by
  obtain ⟨u, hu, hclose⟩ : ∃ u : State, u.sess k = { s.sess k with
      state := .dispensing, purpose := .change, changeDue := (s.sess k).credit - ((s.sess k).fixed.map (·.due)).getD 0,
      payout := [], tInactivity := none, tCardWrite := none } ∧
      enterChange k s = closeIfDone k (showMessage k .change (startPayout k ((s.sess k).credit - ((s.sess k).fixed.map (·.due)).getD 0) u)) :=
    ⟨_, State.sess_updSess_same _ _ _, rfl⟩
  have hkeeps := startPayout_keeps k ((s.sess k).credit - ((s.sess k).fixed.map (·.due)).getD 0) u
  rw [hu] at hkeeps
  rw [hclose]
  obtain ⟨hsettled, hstate⟩ := closeIfDone_after hkeeps.1 hkeeps.2 .change
  exact ⟨⟨hsettled.credit, hsettled.write, hsettled.purpose, hsettled.cancelCause, fun _ => hsettled.tCardWrite rfl⟩,
    hstate.symm.imp And.left id⟩

/-- The refund as a payout that starts from a session in DISPENSING, a restoration, a message and a close (R91). -/
theorem enterRefund_eq (k : Kiosk) (m : Message) (s : State) :
    ∃ u v b, u.sess k = { s.sess k with
        state := .dispensing, purpose := .refund, changeDue := (s.sess k).credit - (s.sess k).escrowValue, payout := [],
        tInactivity := none, tCardWrite := none, escrowValue := v, returnOut := b } ∧
      enterRefund k m s = closeIfDone k (showMessage k m (restoreAtRefund k
        (startPayout k ((s.sess k).credit - (s.sess k).escrowValue) u))) := by
  obtain ⟨v, hv⟩ := requestEscrow_sess k .ret (s.updSess k fun x =>
    { x with state := .dispensing, purpose := .refund, changeDue := (s.sess k).credit - (s.sess k).escrowValue, payout := [],
             tInactivity := none, tCardWrite := none })
  exact ⟨_, v, _, by rw [State.sess_updSess_same, hv, State.sess_updSess_same], rfl⟩

/-- The refund: the session goes into DISPENSING for it, showing `m`, and may close at once (R91). -/
theorem enterRefund_settled (k : Kiosk) (m : Message) (s : State) :
    SettledFrom { s.sess k with purpose := .refund, tCardWrite := none } ((enterRefund k m s).sess k) ∧
      (((enterRefund k m s).sess k).state = .idle ∨
        (((enterRefund k m s).sess k).state = .dispensing ∧ ((enterRefund k m s).disp k).message = m)) := by
  obtain ⟨u, v, b, hu, heq⟩ := enterRefund_eq k m s
  have hkeeps := startPayout_keeps k ((s.sess k).credit - (s.sess k).escrowValue) u
  rw [hu, ← restoreAtRefund_sess k (startPayout k _ u) k] at hkeeps
  rw [heq]
  obtain ⟨hsettled, hstate⟩ := closeIfDone_after hkeeps.1 hkeeps.2 m
  exact ⟨⟨hsettled.credit, hsettled.write, hsettled.purpose, hsettled.cancelCause, fun _ => hsettled.tCardWrite rfl⟩, hstate⟩

/-! ### The grant at a refund (R131, R132) -/

@[simp] theorem raise_kcard (e : EventKind) (o : Option Kiosk) (s : State) (j : Kiosk) : (raise e o s).kcard j = s.kcard j := rfl

@[simp] theorem setEscrow_kcard (k : Kiosk) (l : List EscrowEntry) (s : State) (j : Kiosk) : (setEscrow k l s).kcard j = s.kcard j := by
  simp only [setEscrow]
  split <;> simp

theorem offerEscrow_kcard {k : Kiosk} {a : EscrowAction} {l : List EscrowEntry} {o : EscrowOrigin} {s t : State} {r : OfferResult}
    (h : offerEscrow k a l o s = (t, r)) (j : Kiosk) : t.kcard j = s.kcard j := by
  simp only [offerEscrow] at h
  split at h <;> cases h <;> simp

@[simp] theorem requestEscrow_kcard (k : Kiosk) (a : EscrowAction) (s : State) (j : Kiosk) :
    (requestEscrow k a s).1.kcard j = s.kcard j := by
  simp only [requestEscrow]
  split
  · rfl
  · split
    · simp [holdEscrow]
    · split
      all_goals
        next t h => simp [holdEscrow, offerEscrow_kcard h]

@[simp] theorem startPayout_kcard (k : Kiosk) (amount : Nat) (s : State) (j : Kiosk) :
    (startPayout k amount s).kcard j = s.kcard j := by
  simp only [startPayout]
  split
  · rfl
  · split
    · rfl
    · have hoffer : ∀ {c : Cmd} {t : State} {r : OfferResult}, offer k c s = (t, r) → t.kcard j = s.kcard j := by
        intro c t r h
        rw [← offer_kcard k c s j, h]
      split
      next t h => simp [registerOrder, hoffer h]
      next t r _ h => exact hoffer h

@[simp] theorem reopen_kcard (k : Kiosk) (s : State) (j : Kiosk) : (reopen k s).kcard j = s.kcard j := by
  simp [reopen, offerInlet, State.updInlet]

@[simp] theorem removeCauses_kcard (k : Kiosk) (i : Inlet) (s : State) (j : Kiosk) : (removeCauses k i s).kcard j = s.kcard j := by
  simp only [removeCauses]
  repeat' split
  all_goals simp [State.updInlet]

@[simp] theorem toIdle_kcard (k : Kiosk) (m : Message) (s : State) (j : Kiosk) : (toIdle k m s).kcard j = s.kcard j := by
  simp only [toIdle, sessionReturned]
  repeat' split
  all_goals simp

@[simp] theorem requestReceipt_kcard (k : Kiosk) (o : SessOutcome) (s : State) (j : Kiosk) :
    (requestReceipt k o s).1.kcard j = s.kcard j := by
  obtain h | ⟨jobs, h⟩ := requestReceipt_cases k o s <;> simp [h]

/-- The authoriser's close gives a kiosk without a grant none. -/
theorem authoriserClose_grant {k : Kiosk} {s : State} (h : (s.kcard k).grant = none) (o : SessOutcome) (d : Bool) :
    ((authoriserClose k o d s).kcard k).grant = none := by
  simp only [authoriserClose, deliverGrant_none h, restoreGrant_none h, ite_self, setIssued]
  split
  · exact h
  · split <;> simpa using h

theorem closeSession_grant {k : Kiosk} {s : State} (h : (s.kcard k).grant = none) : ((closeSession k s).kcard k).grant = none := by
  have hrecord : ∀ (o : SessOutcome) (d : Bool) (t : State), t.kcard k = s.kcard k →
      ((settleRecord k o d t).kcard k).grant = none := by
    intro o d t ht
    simpa [settleRecord, append] using authoriserClose_grant (ht ▸ h) o d
  simp only [closeSession, toIdle_kcard]
  apply hrecord
  repeat' split
  all_goals simp

/-- A refund restores the grant of a sale whose card was not written (R132). -/
theorem enterRefund_grant {k : Kiosk} {s : State} (hw : (s.sess k).write = .none) (m : Message) :
    ((enterRefund k m s).kcard k).grant = none := by
  obtain ⟨u, v, b, hu, heq⟩ := enterRefund_eq k m s
  have hwrite := (startPayout_keeps k ((s.sess k).credit - (s.sess k).escrowValue) u).1.write
  rw [hu] at hwrite
  have hnone : ((showMessage k m (restoreAtRefund k
      (startPayout k ((s.sess k).credit - (s.sess k).escrowValue) u))).kcard k).grant = none := by
    rw [showMessage_kcard, restoreAtRefund, if_pos (.inl (hwrite.trans hw)), restoreGrant_grant]
  rw [heq]
  obtain h | h := closeIfDone_cases k (showMessage k m (restoreAtRefund k
    (startPayout k ((s.sess k).credit - (s.sess k).escrowValue) u)))
  · rw [h, hnone]
  · rw [h, closeSession_grant hnone]

/-! ### The statement (R89, R136) -/

/-- A write concluded leads to the change with its state (R136). -/
theorem writeConcluded_settled (k : Kiosk) (w : WriteState) (s : State) :
    SettledFrom { s.sess k with write := w, purpose := .change, tCardWrite := none } ((writeConcluded k w s).sess k) ∧
      (((writeConcluded k w s).sess k).state = .dispensing ∨ ((writeConcluded k w s).sess k).state = .idle) := by
  have h := enterChange_settled k (s.updSess k fun x => { x with write := w, tCardWrite := none })
  rwa [State.sess_updSess_same] at h

/-- A write that failed leads to the refund (R136). -/
theorem writeFailed_settled (k : Kiosk) (m : Message) (s : State) :
    SettledFrom { s.sess k with write := .failed, purpose := .refund, tCardWrite := none } ((writeFailed k m s).sess k) ∧
      (((writeFailed k m s).sess k).state = .dispensing ∨ ((writeFailed k m s).sess k).state = .idle) := by
  obtain ⟨h, hstate⟩ := enterRefund_settled k m (s.updSess k fun x => { x with write := .failed })
  rw [State.sess_updSess_same] at h
  exact ⟨h, hstate.symm.imp And.left id⟩

/-- A result of another card or of another counter is not taken (R136). -/
theorem cardResultFrame_other {k : Kiosk} {card counter : Nat} {w : CardWrite} {s : State} (hissued : (s.kcard k).issued = some w)
    (h : w.card ≠ card ∨ w.counter ≠ counter) (r : CardOutcome) : cardResultFrame k r card counter s = s := by
  simp only [cardResultFrame, hissued]
  exact if_neg fun hsame => h.elim (· hsame.1) (· hsame.2.1)

/-- A result of the issued write of a session in WRITING concludes it (R136). -/
theorem cardResultFrame_own {k : Kiosk} {w : CardWrite} {s : State} (hissued : (s.kcard k).issued = some w)
    (hstate : (s.sess k).state = .writing) (hwrite : (s.sess k).write = .issued) (r : CardOutcome) :
    cardResultFrame k r w.card w.counter s = match r with
      | .done => writeConcluded k .done s
      | .unknown => writeConcluded k .unknown s
      | .failed => writeFailed k .refund (s.updSess k fun x => { x with tCardWrite := none }) := by
  simp only [cardResultFrame, hissued]
  refine (if_pos ⟨trivial, trivial, hstate, hwrite⟩).trans ?_
  cases r <;> rfl

theorem exec_cardResult (l : LoopId) (a : Bool) (r : CardOutcome) (card counter : Nat) (s : State) :
    exec (.cardResult l a r card counter) s = .next (goodReply l a (fun k => cardResultFrame k r card counter) s) := rfl

/-- The card write timer running out counts as UNKNOWN (R89). -/
theorem exec_cardWriteTimerExpiry {k : Kiosk} {s : State} (ht : (s.sess k).tCardWrite.isSome = true) :
    exec (.cardWriteTimerExpiry k) s = .next (writeConcluded k .unknown s) :=
  congrArg Host.Outcome.next (if_pos ht)

/-- Settles O41: a result of the issued write concludes it into the change or the refund, a result of another write is
not taken, and the card write timer counts as UNKNOWN. -/
theorem cardResultConcludesWrite : Obligations.CardResultConcludesWrite := by
  unfold Obligations.CardResultConcludesWrite
  intro l a k r card counter w s
  refine ⟨fun hp => ?_, fun _ ht => ?_⟩
  · intro u hissued
    have hexec : exec (.cardResult l a r card counter) s = .next (nextPoll l (cardResultFrame k r card counter u)) := by
      rw [exec_cardResult, goodReply_of_polls hp]
    refine ⟨fun hother => by rw [hexec, cardResultFrame_other hissued hother], ?_⟩
    rintro rfl rfl hstate hwrite
    refine ⟨_, hexec, ?_⟩
    rw [cardResultFrame_own hissued hstate hwrite]
    cases r with
    | done =>
      obtain ⟨h, hend⟩ := writeConcluded_settled k .done u
      exact ⟨h.write, h.purpose, h.tCardWrite rfl, hend, h.credit⟩
    | failed =>
      obtain ⟨h, hend⟩ := writeFailed_settled k .refund (u.updSess k fun x => { x with tCardWrite := none })
      rw [State.sess_updSess_same] at h
      exact ⟨h.write, h.purpose, h.tCardWrite rfl, hend, h.credit⟩
    | unknown =>
      obtain ⟨h, hend⟩ := writeConcluded_settled k .unknown u
      exact ⟨h.write, h.purpose, h.tCardWrite rfl, hend, h.credit⟩
  · obtain ⟨h, -⟩ := writeConcluded_settled k .unknown s
    exact ⟨_, exec_cardWriteTimerExpiry ht, h.write, h.purpose, h.tCardWrite rfl, h.credit⟩

end Sys2Proof.Machine
end

section
/-! SUPPORT. The stop-list's requests (section 7.2, R122, R123): what a number that is added makes of the sessions it meets
(R86), kiosk by kiosk, and the settlement of the statement about them. -/

namespace Sys2Proof.Machine

/-! ### A cancelled sale in PAYING (R86) -/

/-- A coin past the gate is not released (R31). -/
theorem releaseCoin_inFlight {k : Kiosk} {s : State} {f : Flight} (h : (s.coin k).flight = some f) (hgate : f.gateTaken = true) :
    releaseCoin k s = (s, .inFlight) := by
  simp only [releaseCoin, h]
  exact if_pos hgate

/-- With no coin past the gate a release is answered otherwise than IN_FLIGHT, and the session and the card's part stay. -/
theorem releaseCoin_released {k : Kiosk} {s : State} (h : ∀ f, (s.coin k).flight = some f → f.gateTaken = false) :
    (releaseCoin k s).2 ≠ .inFlight ∧ (releaseCoin k s).1.sess k = s.sess k := by
  cases hf : (s.coin k).flight with
  | none => simp [releaseCoin, hf]
  | some f =>
    simp only [releaseCoin, hf, h f hf, Bool.false_eq_true, if_false]
    split <;> simp

/-- With its coin past the gate the sale waits in CANCELLING with the cause recorded. -/
theorem cancelPaying_inFlight {k : Kiosk} {s : State} {f : Flight} (h : (s.coin k).flight = some f) (hgate : f.gateTaken = true)
    (cause : Message) :
    (cancelPaying k cause s).sess k = { s.sess k with cancelCause := some cause, state := .cancelling, tInactivity := none } ∧
      ((cancelPaying k cause s).disp k).message = .cancelled := by
  have heq : cancelPaying k cause s = showMessage k .cancelled ((s.updSess k fun x => { x with cancelCause := some cause }).updSess k
      fun x => { x with state := .cancelling, tInactivity := none }) := by
    simp only [cancelPaying]
    rw [releaseCoin_inFlight (f := f) (by rw [State.coin_updSess, h]) hgate]
  rw [heq, showMessage_sess, showMessage_disp_same, State.sess_updSess_same, State.sess_updSess_same]
  exact ⟨rfl, rfl⟩

/-- With no coin past the gate the sale is refunded with the cause recorded, its grant restored where the card is not written. -/
theorem cancelPaying_refund {k : Kiosk} {s : State} (h : ∀ f, (s.coin k).flight = some f → f.gateTaken = false) (cause : Message) :
    let t := cancelPaying k cause s
    SettledFrom { s.sess k with cancelCause := some cause, purpose := .refund, tCardWrite := none } (t.sess k) ∧
      ((t.sess k).state = .idle ∨ ((t.sess k).state = .dispensing ∧ (t.disp k).message = refundMessage (some cause))) ∧
      ((s.sess k).write = .none → (t.kcard k).grant = none) := by
  obtain ⟨hanswer, hsess⟩ := releaseCoin_released (k := k) (s := s.updSess k fun x => { x with cancelCause := some cause })
    (by simpa using h)
  rw [State.sess_updSess_same] at hsess
  have heq : cancelPaying k cause s = enterRefund k (refundMessage (some cause))
      (releaseCoin k (s.updSess k fun x => { x with cancelCause := some cause })).1 := by
    rw [cancelPaying]
    split
    next hin => exact absurd hin hanswer
    next => rfl
  obtain ⟨hsettled, hstate⟩ := enterRefund_settled k (refundMessage (some cause))
    (releaseCoin k (s.updSess k fun x => { x with cancelCause := some cause })).1
  rw [hsess] at hsettled
  simp only [heq]
  exact ⟨hsettled, hstate, fun hw => enterRefund_grant (by rw [hsess]; exact hw) _⟩

/-! ### One kiosk (R123) -/

/-- What a number added to the stop-list makes of a kiosk `x`, as the statement has it: `y` is the kiosk afterwards, `listed`
whether it has a request in the list then. -/
def StopMeets (n inactivity : Nat) (x y : KioskCtx) (listed : Bool) : Prop :=
  (x.sess.card.map (·.number) ≠ some n → y.sess = x.sess) ∧
  (x.sess.card.map (·.number) = some n →
    (x.sess.state = .authorising →
      y.sess.state = .selecting ∧ y.sess.auth = .denied ∧ y.sess.fixed = x.sess.fixed ∧ y.sess.tAuthorisation = none ∧
      y.sess.tInactivity = some inactivity ∧ y.disp.message = .cardBlocked ∧ listed = false ∧
      y.card.lastRequest = x.card.lastRequest.map (fun r => { r with conclusion := .stoplist })) ∧
    (x.sess.state = .paying → x.sess.kind ≠ .paperSale →
      y.sess.cancelCause = some .cardBlocked ∧ y.sess.credit = x.sess.credit ∧
      ((∃ f, x.coin.flight = some f ∧ f.gateTaken = true) → y.sess.state = .cancelling ∧ y.disp.message = .cancelled) ∧
      ((∀ f, x.coin.flight = some f → f.gateTaken = false) →
        y.sess.purpose = .refund ∧ (y.sess.state = .dispensing ∨ y.sess.state = .idle) ∧
        (y.sess.state = .dispensing → y.disp.message = .cardBlocked) ∧
        (x.sess.write = .none → y.card.grant = none))) ∧
    (x.sess.state ≠ .authorising → (x.sess.state ≠ .paying ∨ x.sess.kind = .paperSale) → y.sess = x.sess))

section
variable {n : Nat} {k : Kiosk} {s : State}

theorem stopListHit_other (h : ((s.sess k).card.map (·.number)) ≠ some n) : stopListHit n k s = s := if_neg h

theorem stopListHit_authorising (h : ((s.sess k).card.map (·.number)) = some n) (hstate : (s.sess k).state = .authorising) :
    stopListHit n k s = sessionDenied k .cardBlocked (conclude k .stoplist (unlist k s)) := by
  simp only [stopListHit, hstate]
  exact if_pos h

/-- In AUTHORISING the request leaves the list with conclusion STOPLIST and the session returns to SELECTING. -/
theorem stopListHit_denied (h : ((s.sess k).card.map (·.number)) = some n) (hstate : (s.sess k).state = .authorising) :
    (stopListHit n k s).sess k = { s.sess k with auth := .denied, state := .selecting, tAuthorisation := none,
                                                 tInactivity := some s.settings.inactivity } ∧
      ((stopListHit n k s).disp k).message = .cardBlocked ∧ (stopListHit n k s).listed k = false ∧
      ((stopListHit n k s).kcard k).lastRequest = (s.kcard k).lastRequest.map (fun r => { r with conclusion := .stoplist }) := by
  have hsess : (conclude k .stoplist (unlist k s)).sess k = s.sess k := State.sess_updCard _ _ _ _
  have hcard : (conclude k .stoplist (unlist k s)).kcard k =
      { s.kcard k with lastRequest := (s.kcard k).lastRequest.map (fun r => { r with conclusion := .stoplist }) } :=
    State.kcard_updCard_same _ _ _
  rw [stopListHit_authorising h hstate, sessionDenied_sess, sessionDenied_message, sessionDenied_kcard, hsess, hcard]
  exact ⟨rfl, rfl, (listed_congr (by rw [sessionDenied_cards]; rfl) k).trans (listed_unlist k s), rfl⟩

theorem stopListHit_paying (h : ((s.sess k).card.map (·.number)) = some n) (hstate : (s.sess k).state = .paying)
    (hkind : (s.sess k).kind ≠ .paperSale) : stopListHit n k s = cancelPaying k .cardBlocked s := by
  simp only [stopListHit, hstate]
  exact (if_pos h).trans (if_neg hkind)

theorem stopListHit_elsewhere (hstate : (s.sess k).state ≠ .authorising)
    (h : (s.sess k).state ≠ .paying ∨ (s.sess k).kind = .paperSale) : stopListHit n k s = s := by
  simp only [stopListHit]
  split
  · split
    next ha => exact absurd ha hstate
    next hp => exact if_pos (h.resolve_left (absurd hp))
    next => rfl
  · rfl

/-- R123 at one kiosk. -/
theorem stopListHit_meets (n : Nat) (k : Kiosk) (s : State) :
    StopMeets n s.settings.inactivity (s.ctx k) ((stopListHit n k s).ctx k) ((stopListHit n k s).listed k) := by
  refine ⟨fun hother => by rw [stopListHit_other hother], fun hcard => ⟨fun hstate => ?_, fun hstate hkind => ?_, fun hstate h =>
    by rw [stopListHit_elsewhere hstate h]⟩⟩
  · obtain ⟨hsess, hmessage, hlisted, hlast⟩ := stopListHit_denied hcard hstate
    exact ⟨congrArg Session.state hsess, congrArg Session.auth hsess, (congrArg Session.fixed hsess).trans rfl,
      congrArg Session.tAuthorisation hsess, congrArg Session.tInactivity hsess, hmessage, hlisted, hlast⟩
  · rw [stopListHit_paying hcard hstate hkind]
    by_cases hgate : ∃ f, (s.coin k).flight = some f ∧ f.gateTaken = true
    · obtain ⟨f, hflight, htaken⟩ := hgate
      obtain ⟨hsess, hmessage⟩ := cancelPaying_inFlight hflight htaken .cardBlocked
      exact ⟨congrArg Session.cancelCause hsess, (congrArg Session.credit hsess).trans rfl,
        fun _ => ⟨congrArg Session.state hsess, hmessage⟩, fun h => absurd htaken (by rw [h f hflight]; decide)⟩
    · have hno : ∀ f, (s.coin k).flight = some f → f.gateTaken = false := fun f hf =>
        Bool.eq_false_iff.mpr fun ht => hgate ⟨f, hf, ht⟩
      obtain ⟨hsettled, hend, hgrant⟩ := cancelPaying_refund hno .cardBlocked
      refine ⟨hsettled.cancelCause, hsettled.credit, fun h => absurd h hgate, fun _ =>
        ⟨hsettled.purpose, hend.symm.imp And.left id, fun hd => ?_, hgrant⟩⟩
      exact hend.elim (fun hidle => nomatch hidle.symm.trans hd) And.right

end

/-! ### All kiosks (R123) -/

/-- A kiosk's turn leaves the other kiosks and the settings. -/
theorem stopListHit_leaves (n : Nat) {j k : Kiosk} (h : k ≠ j) (s : State) :
    (stopListHit n j s).ctx k = s.ctx k ∧ (stopListHit n j s).listed k = s.listed k ∧
      (stopListHit n j s).settings = s.settings := by
  have hk : k ∉ ({j} : Finset Kiosk) := Finset.notMem_singleton.mpr h
  have hout := stopListHit_outside (Finset.mem_singleton_self j) n s
  exact ⟨ctx_of_outside hout hk, listed_of_outside hout hk, settings_of_outside hout⟩

theorem foldl_stopListHit_leaves (n : Nat) {k : Kiosk} {l : List Kiosk} (h : k ∉ l) (s : State) :
    (l.foldl (fun t j => stopListHit n j t) s).ctx k = s.ctx k ∧
      (l.foldl (fun t j => stopListHit n j t) s).listed k = s.listed k := by
  induction l generalizing s with
  | nil => exact ⟨rfl, rfl⟩
  | cons j l ih =>
    obtain ⟨hj, hl⟩ := List.ne_and_not_mem_of_not_mem_cons h
    obtain ⟨hctx, hlisted, -⟩ := stopListHit_leaves n hj s
    obtain ⟨ihctx, ihlisted⟩ := ih hl (stopListHit n j s)
    exact ⟨ihctx.trans hctx, ihlisted.trans hlisted⟩

/-- Each kiosk in a list without repeats is met in its own turn, as it stood before the first. -/
theorem foldl_stopListHit_meets (n : Nat) {k : Kiosk} {l : List Kiosk} (hnodup : l.Nodup) (h : k ∈ l) (s : State) :
    StopMeets n s.settings.inactivity (s.ctx k) ((l.foldl (fun t j => stopListHit n j t) s).ctx k)
      ((l.foldl (fun t j => stopListHit n j t) s).listed k) := by
  induction l generalizing s with
  | nil => cases h
  | cons j l ih =>
    obtain ⟨hj, hl⟩ := List.nodup_cons.mp hnodup
    rw [List.foldl_cons]
    by_cases hk : k = j
    · subst hk
      obtain ⟨hctx, hlisted⟩ := foldl_stopListHit_leaves n hj (stopListHit n k s)
      rw [hctx, hlisted]
      exact stopListHit_meets n k s
    · obtain ⟨hctx, -, hsettings⟩ := stopListHit_leaves n hk s
      have hmeets := ih hl (List.mem_of_ne_of_mem hk h) (stopListHit n j s)
      rwa [hctx, hsettings] at hmeets

/-! ### The requests (R122, R123) -/

/-- The state in which a number has joined the stop-list and met the sessions. -/
def State.stopAdded (s : State) (n : Nat) : State :=
  allKiosks.foldl (fun t k => stopListHit n k t) (s.setStop (insertStop n s.cards.stopList))

theorem stopAdded_stopList (s : State) (n : Nat) : (s.stopAdded n).cards.stopList = insertStop n s.cards.stopList := by
  rw [State.stopAdded, foldl_stopListHit_stopList]
  rfl

theorem stopAdded_meets (s : State) (n : Nat) (k : Kiosk) :
    StopMeets n s.settings.inactivity (s.ctx k) ((s.stopAdded n).ctx k) ((s.stopAdded n).listed k) :=
  foldl_stopListHit_meets n (by decide) (by revert k; decide) (s.setStop (insertStop n s.cards.stopList))

section
variable (number : Word) (s : State)

theorem exec_stoplistAdd : exec (.stoplistAdd number) s = .next (depotRequest 0x46 (doStoplistAdd number) s) := rfl
theorem exec_stoplistRemove : exec (.stoplistRemove number) s = .next (depotRequest 0x47 (doStoplistRemove number) s) := rfl
theorem exec_stoplistClear : exec .stoplistClear s = .next (depotRequest 0x48 doStoplistClear s) := rfl

/-- ADD: its refusals in their order, and the number taken. -/
theorem doStoplistAdd_eq : doStoplistAdd number s =
    if number.toNat = 0 then (s, { status := .badField, data := [] })
    else if number.toNat ∈ s.cards.stopList then (s, { status := .already, data := [] })
    else if 4096 ≤ s.cards.stopList.length then (s, { status := .full, data := [] })
    else (s.stopAdded number.toNat, { status := .ok, data := [] }) := by
  rw [doStoplistAdd, Config.stopListMax]
  simp only [stopListed_iff]
  repeat' split
  all_goals rfl

/-- REMOVE: its refusals in their order, and the number taken out. -/
theorem doStoplistRemove_eq : doStoplistRemove number s =
    if number.toNat = 0 then (s, { status := .badField, data := [] })
    else if number.toNat ∈ s.cards.stopList then
      (s.setStop (s.cards.stopList.filter fun m => decide (m ≠ number.toNat)), { status := .ok, data := [] })
    else (s, { status := .notFound, data := [] }) := by
  rw [doStoplistRemove]
  simp only [stopListed_iff]
  repeat' split
  all_goals rfl

end

/-- Settles O43: the three requests by their cases, and the kiosks a number meets one by one. -/
theorem stopListRequests : Obligations.StopListRequests := by
  unfold Obligations.StopListRequests
  intro number s hs v n
  have hadd {t : State} {st : Status} {data : List Byte} := exec_answered (t := t) (st := st) (data := data) hs (exec_stoplistAdd number s)
  have hremove {t : State} {st : Status} {data : List Byte} :=
    exec_answered (t := t) (st := st) (data := data) hs (exec_stoplistRemove number s)
  rw [doStoplistAdd_eq, frameForStation_stopList] at hadd
  rw [doStoplistRemove_eq, frameForStation_stopList] at hremove
  refine ⟨fun h0 => ⟨hadd (if_pos h0), hremove (if_pos h0)⟩,
    fun h0 hn => ⟨hadd ((if_neg h0).trans (if_pos hn)), hremove ((if_neg h0).trans (if_pos hn))⟩,
    fun h0 hn => hremove ((if_neg h0).trans (if_neg hn)),
    fun h0 hn hfull => hadd ((if_neg h0).trans ((if_neg hn).trans (if_pos hfull))),
    fun h0 hn hroom => ?_, exec_answered hs (exec_stoplistClear s) rfl⟩
  obtain ⟨t, ht⟩ : ∃ t, v.stopAdded n = t := ⟨_, rfl⟩
  have hlist : t.cards.stopList = insertStop n s.cards.stopList := by
    rw [← ht, stopAdded_stopList, frameForStation_stopList]
  have hmeets : ∀ k, StopMeets n s.settings.inactivity (s.ctx k) (t.ctx k) (t.listed k) := fun k => by
    have h := stopAdded_meets v n k
    rwa [frameForStation_ctx, frameForStation_settings, ht] at h
  have htaken : exec (.stoplistAdd number) s = .next (t.withReply 0x46 .ok []) :=
    hadd (ht ▸ (if_neg h0).trans ((if_neg hn).trans (if_neg (Nat.not_le.mpr hroom))))
  refine ⟨_, htaken, fun m => ?_, ?_, withReply_reply _ _ _ _, hmeets⟩
  · exact (iff_of_eq (congrArg (m ∈ ·) hlist)).trans mem_insertStop
  · exact (congrArg List.length hlist).trans (length_insertStop hn)

end Sys2Proof.Machine
end

section
/-! SUPPORT. Receipts (chapter 8): the lines of a job (R144, R145), what the take of a command leaves of a kiosk's link state
(R15), the PRINT that a PRINTRDY sends (R149), and the settlement of the statements of that chapter. -/

namespace Sys2Proof.Machine

/-! ### The lines of a receipt (R144, R145) -/

/-- The walk through the template that a closed session's receipt is chosen, with its nest limit (R143, R144). -/
def Closed.walk (c : Closed) (s : State) : List Line × Bool := expandTemplate s c 2 (chosenTemplate s c.outcome c.sess.kind)

/-- The uncertain text is due (R145): the write is UNKNOWN or ISSUED, and no kept line came from TOPUP_STATUS. -/
def Closed.UncertainDue (c : Closed) (s : State) : Prop :=
  (c.sess.write = .unknown ∨ c.sess.write = .issued) ∧ ∀ x ∈ (c.walk s).1.take 48, x.fromStatus = false

/-- The uncertain text of a sale or a top-up (R145). -/
def uncertainText (kind : SessKind) : List Byte :=
  if kind = .topup then chars "TOP-UP PENDING CONFIRMATION" else chars "CARD WRITE PENDING CONFIRMATION"

theorem statusText_uncertain {w : WriteState} (h : w = .unknown ∨ w = .issued) (kind : SessKind) :
    statusText w kind = some (uncertainText kind) := by
  rcases h with rfl | rfl <;> cases kind <;> rfl

section
variable {s : State} {c : Closed}

/-- The model's test for the uncertain text is the one of R145. -/
theorem uncertainDue_iff :
    (decide (c.sess.write = .unknown ∨ c.sess.write = .issued) = true ∧
      ((c.walk s).1.take Config.linesMax).any (·.fromStatus) = false) ↔ c.UncertainDue s := by
  simp only [Closed.UncertainDue, decide_eq_true_eq, List.any_eq_false, Bool.not_eq_true, Config.linesMax]

/-- Where no uncertain text is due the lines are the walk's first 48. -/
theorem printedOf_of_not_due (h : ¬ c.UncertainDue s) :
    printedOf s c = { lines := ((c.walk s).1.take 48).map (·.text), nestLimit := (c.walk s).2,
                      truncated := decide (48 < (c.walk s).1.length) } :=
  if_neg (mt uncertainDue_iff.mp h)

/-- Where it is due the uncertain text stands behind the walk's first 47 lines. -/
theorem printedOf_of_due (h : c.UncertainDue s) :
    printedOf s c = { lines := ((c.walk s).1.take 47).map (·.text) ++ [uncertainText c.sess.kind], nestLimit := (c.walk s).2,
                      truncated := decide (47 < (c.walk s).1.length) } := by
  have hlen : (((c.walk s).1.take 48).map (·.text)).length = min 48 (c.walk s).1.length := by simp
  refine (if_pos (uncertainDue_iff.mpr h)).trans ?_
  rw [statusText_uncertain h.1, Option.getD_some]
  change (if (((c.walk s).1.take 48).map (·.text)).length < 48 then _ else _) = _
  split
  next hroom =>
    have hwalk : (c.walk s).1.length ≤ 47 := by omega
    rw [Printed.mk.injEq]
    refine ⟨?_, rfl, ?_⟩
    · change ((c.walk s).1.take 48).map (·.text) ++ _ = _
      rw [List.take_of_length_le (by omega), List.take_of_length_le hwalk]
    · exact decide_eq_decide.mpr (iff_of_false (Nat.not_lt.mpr (hwalk.trans (by decide))) (Nat.not_lt.mpr hwalk))
  next hfull =>
    rw [Printed.mk.injEq]
    refine ⟨?_, rfl, (decide_eq_true (by omega)).symm⟩
    change (((c.walk s).1.take 48).map (·.text)).take 47 ++ _ = _
    rw [← List.map_take, List.take_take]
    rfl

variable (s c)

/-- A job has at most 48 lines (R145). -/
theorem length_lines_printedOf_le : (printedOf s c).lines.length ≤ 48 := by
  by_cases h : c.UncertainDue s
  case pos =>
    simp only [printedOf_of_due h, List.length_append, List.length_map, List.length_take, List.length_singleton]
    omega
  case neg =>
    simp only [printedOf_of_not_due h, List.length_map, List.length_take]
    omega

/-- The nest limit is the walk's, whatever was cut. -/
theorem nestLimit_printedOf : (printedOf s c).nestLimit = (c.walk s).2 := by
  by_cases h : c.UncertainDue s
  case pos => rw [printedOf_of_due h]
  case neg => rw [printedOf_of_not_due h]

/-- A walk of more than 48 lines is TRUNCATED. -/
theorem truncated_printedOf_of_long (hlong : 48 < (c.walk s).1.length) : (printedOf s c).truncated = true := by
  by_cases h : c.UncertainDue s
  case pos => exact (congrArg Printed.truncated (printedOf_of_due h)).trans (decide_eq_true (Nat.lt_of_succ_lt hlong))
  case neg => exact (congrArg Printed.truncated (printedOf_of_not_due h)).trans (decide_eq_true hlong)

end

/-- Settles O48: by whether the uncertain text is due. -/
theorem printedLinesBounded : Obligations.PrintedLinesBounded := by
  intro s c
  refine ⟨length_lines_printedOf_le s c, nestLimit_printedOf s c, truncated_printedOf_of_long s c, fun hu hi => ?_,
    fun hw hkept => ?_⟩
  · have heq := printedOf_of_not_due (s := s) fun hdue => hdue.1.elim hu hi
    refine ⟨congrArg Printed.lines heq, ?_⟩
    rw [heq]
    exact decide_eq_true_iff
  · exact (congrArg (·.lines.getLast?) (printedOf_of_due ⟨hw, hkept⟩)).trans List.getLast?_concat

/-! ### What the takes leave of the link state (R15)

A take moves a kiosk's queue and what its owners hold; PRESENT, ABSENT and UNUSED are the Loop Controller's own (R7, R8). The
operations that offer no command leave the whole link part. -/

/-- A state read out of an answer has the links that the answer's state has. -/
theorem link_of_answer {α : Type} {r : State × α} {t : State} {x : α} (h : r = (t, x)) (j : Kiosk) : t.link j = r.1.link j := by
  rw [h]

/-- Equal context vectors have equal links. -/
theorem link_of_kiosks {s t : State} (h : t.kiosks = s.kiosks) (j : Kiosk) : t.link j = s.link j := by
  rw [State.link, State.ctx, h]; rfl

/-- Two changes of a link part that agree on what it holds are one. -/
theorem State.updLink_congr {s : State} {k : Kiosk} {f g : KLink → KLink} (h : f (s.link k) = g (s.link k)) :
    s.updLink k f = s.updLink k g := by
  have h : f (s.ctx k).link = g (s.ctx k).link := h
  simp [State.updLink, State.upd, h]

/-- A change of a link part that leaves its state leaves every link state. -/
theorem updLink_link_state {f : KLink → KLink} (h : ∀ x, (f x).state = x.state) (s : State) (k j : Kiosk) :
    ((s.updLink k f).link j).state = (s.link j).state := by
  rw [State.link_updLink]; split <;> simp [h]

@[simp] theorem KLink.releaseHeld_state (l : KLink) (kd : CmdKind) : (l.releaseHeld kd).state = l.state := by
  unfold KLink.releaseHeld; repeat' split
  all_goals rfl

section
variable (k j : Kiosk) (s : State)

/-! The Card Authoriser, the Receipt Composer and the journal at a close. -/

@[simp] theorem judgeFloat_link : (judgeFloat s).link j = s.link j := link_of_kiosks (judgeFloat_kiosks s) j
@[simp] theorem restoreGrant_link : (restoreGrant k s).link j = s.link j := by unfold restoreGrant; split <;> simp
@[simp] theorem deliverGrant_link : (deliverGrant k s).link j = s.link j := by unfold deliverGrant; split <;> simp
@[simp] theorem authoriserClose_link (o : SessOutcome) (d : Bool) : (authoriserClose k o d s).link j = s.link j := by
  simp only [authoriserClose, setIssued]; repeat' split
  all_goals simp
@[simp] theorem requestReceipt_link (o : SessOutcome) : (requestReceipt k o s).1.link j = s.link j := by
  obtain h | ⟨jobs, h⟩ := requestReceipt_cases k o s <;> simp [h]
@[simp] theorem settleRecord_link (o : SessOutcome) (d : Bool) : (settleRecord k o d s).link j = s.link j := by
  simp [settleRecord, append]
@[simp] theorem updHead_link (f : Job → Job) : (updHead k f s).link j = s.link j := by unfold updHead; split <;> simp
@[simp] theorem removeHead_link : (removeHead k s).link j = s.link j := by unfold removeHead; split <;> simp
@[simp] theorem printTaken_link (n : Nat) (cut : Bool) : (printTaken k n cut s).link j = s.link j := by
  simp only [printTaken]; split <;> simp

/-! The Cash Unit. -/

@[simp] theorem tubeNote_link_state (n : TubeNo) (old : Tube) : ((tubeNote k n old s).link j).state = (s.link j).state := by
  simp only [tubeNote, recompute_link_state]; repeat' split
  all_goals simp
@[simp] theorem changeTubes_link_state (f : TubeNo → Tube → Tube) : ((changeTubes k f s).link j).state = (s.link j).state := by
  rw [changeTubes_eq_foldl]
  refine (foldl_keeps (fun n t => noteTube k _ _ t n) (fun t => (t.link j).state) (fun n t => ?_) allTubes _).trans (by simp)
  unfold noteTube; split <;> simp
@[simp] theorem setEscrow_link (l : List EscrowEntry) : (setEscrow k l s).link j = s.link j := by
  simp only [setEscrow]; split <;> simp
@[simp] theorem offerEscrow_link_state (a : EscrowAction) (l : List EscrowEntry) (o : EscrowOrigin) :
    ((offerEscrow k a l o s).1.link j).state = (s.link j).state := by
  simp only [offerEscrow]; split <;> simp
@[simp] theorem requestEscrow_link_state (a : EscrowAction) : ((requestEscrow k a s).1.link j).state = (s.link j).state := by
  simp only [requestEscrow, holdEscrow]
  split
  · rfl
  · split
    · simp
    · split <;> rename_i h <;> simp [link_of_answer h]
@[simp] theorem offerHeldEscrow_link_state : ((offerHeldEscrow k s).link j).state = (s.link j).state := by
  unfold offerHeldEscrow
  split
  · rfl
  · split <;> rename_i h <;> simp [link_of_answer h]
@[simp] theorem escrowTaken_link_state : ((escrowTaken k s).1.link j).state = (s.link j).state := by
  simp only [escrowTaken, addCashbox]
  split
  · rfl
  · simp only [offerHeldEscrow_link_state, State.link_updCash]; split <;> simp

/-! The coin inlet and the Coin Classifier. -/

@[simp] theorem reopen_link_state : ((reopen k s).link j).state = (s.link j).state := by simp [reopen, offerInlet]
@[simp] theorem removeCauses_link_state (i : Inlet) : ((removeCauses k i s).link j).state = (s.link j).state := by
  simp only [removeCauses]; repeat' split
  all_goals simp
@[simp] theorem sessionReturned_link_state : ((sessionReturned k s).link j).state = (s.link j).state := by
  simp only [sessionReturned]; repeat' split
  all_goals simp
@[simp] theorem gateTaken_link_state : ((gateTaken k s).link j).state = (s.link j).state := by
  simp only [gateTaken]; split <;> simp

/-! The Session Engine. -/

@[simp] theorem closeSession_link_state : ((closeSession k s).link j).state = (s.link j).state := by
  simp only [closeSession, toIdle, sessionReturned_link_state, showMessage_link_state, State.link_updSess, settleRecord_link]
  repeat' split
  all_goals simp
@[simp] theorem closeIfDone_link_state : ((closeIfDone k s).link j).state = (s.link j).state := by
  simp only [closeIfDone]; split <;> simp
@[simp] theorem payTaken_link : (payTaken k s).link j = s.link j := by
  unfold payTaken orderTaken; split <;> simp
@[simp] theorem escrowTakenFor_link_state : ((escrowTakenFor k s).link j).state = (s.link j).state := by
  unfold escrowTakenFor; split <;> rename_i h <;> simp [link_of_answer h]

/-! The Loop Controller. -/

@[simp] theorem reportTaken_link_state (c : Cmd) : ((reportTaken k c s).link j).state = (s.link j).state := by
  cases c <;> simp [reportTaken]
@[simp] theorem takeHead_link_state (a : Bool) : ((takeHead k a s).link j).state = (s.link j).state := by
  unfold takeHead
  repeat' split
  · rfl
  · rw [reportTaken_link_state]
    exact updLink_link_state (fun x => by simp) s k j
  · rfl
@[simp] theorem acknowledge_link_state (pk : PollKind) (a : Bool) : ((acknowledge k pk a s).link j).state = (s.link j).state := by
  have hmiss := updLink_link_state (f := fun l => { l with missCount := 0 }) (fun _ => rfl) s k j
  cases pk
  case resync =>
    cases a
    · exact hmiss
    · have hresync := updLink_link_state (f := fun l => { l with resyncPending := false, lastToggle := true }) fun _ => rfl
      exact (hresync _ k j).trans hmiss
  case command => exact (takeHead_link_state k j _ a).trans hmiss
  all_goals exact hmiss

end

/-- The kiosk that a loop polls is PRESENT when the payload of its reply is delivered (R4). -/
theorem present_acked {s : State} {l : LoopId} {k : Kiosk} (h : s.polls l k) (a : Bool) :
    ((s.acked l a).link k).state = .present := by
  rw [← h.2, State.acked]
  split
  · rfl
  · exact acknowledge_link_state ..

/-! ### PRINTRDY (R149) -/

/-- A PRINT joins the tail of a PRESENT kiosk's queue that holds fewer than two (R12). -/
theorem offer_print {k : Kiosk} {s : State} (hp : (s.link k).state = .present) (hq : countKind (s.link k).queue .print < 2)
    (lines : List (List Byte)) (cut : Bool) : (offer k (.print lines cut) s).1 = s.updLink k (fun l => l.join (.print lines cut)) := by
  have hoffer : (s.link k).offer (.print lines cut) = ((s.link k).join (.print lines cut), .joined) :=
    (if_pos hp).trans (if_pos hq)
  exact State.updLink_congr (f := fun l => (l.offer _).1) (g := fun l => l.join _) (congrArg Prod.fst hoffer)

/-- The head of a kiosk's jobs is changed in place. -/
theorem updHead_of_jobs {k : Kiosk} {s : State} {j : Job} {rest : List Job} (h : s.jobs k = j :: rest) (f : Job → Job) :
    updHead k f s = s.setJobs k (f j :: rest) := by
  simp only [updHead, h]

theorem Job.unsent_eq_nil {j : Job} : j.unsent = [] ↔ j.lines.length ≤ j.taken + j.inFlight := List.drop_eq_nil_iff

/-- A head that is not SUSPENDED sends one PRINT of the credited lines, which are in flight from then on (R149). -/
theorem printReady_sends {k : Kiosk} {s : State} {j : Job} {rest : List Job} (hp : (s.link k).state = .present)
    (hj : s.jobs k = j :: rest) (hstate : j.state ≠ .suspended) (hq : countKind (s.link k).queue .print < 2)
    (hunsent : j.unsent ≠ []) (slots : Nat) :
    let n := min (min slots 4) j.unsent.length
    printReady k slots s = s.upd k (fun c =>
      { c with link := c.link.join (.print (j.unsent.take n) (decide (n = j.unsent.length))),
               jobs := { j with inFlight := j.inFlight + n } :: rest }) := by
  intro n
  have hready : ¬ (j.state = .suspended ∨ 2 ≤ countKind (s.link k).queue .print ∨ j.unsent = []) := by
    rintro (h | h | h)
    exacts [hstate h, Nat.not_le.mpr hq h, hunsent h]
  simp only [printReady, hj]
  rw [if_neg hready, offer_print hp hq, updHead_of_jobs (by rw [State.jobs_updLink, hj])]
  exact State.upd_upd ..

/-- A PRINTRDY for which nothing can be sent changes nothing (R149). -/
theorem printReady_silent {k : Kiosk} {s : State}
    (h : ∀ j rest, s.jobs k = j :: rest → j.state = .suspended ∨ 2 ≤ countKind (s.link k).queue .print ∨ j.unsent = [])
    (slots : Nat) : printReady k slots s = s := by
  cases hj : s.jobs k with
  | nil => simp only [printReady, hj]
  | cons j rest =>
    simp only [printReady, hj]
    exact if_pos (h j rest hj)

/-- A PRINTRDY from the kiosk that its loop polls is handled, and the next poll goes out (R4, R149). -/
theorem exec_printRdy {s : State} {l : LoopId} {k : Kiosk} {slots : Nat} (h : s.polls l k) (h1 : 1 ≤ slots) (h8 : slots ≤ 8)
    (a : Bool) : exec (.printRdy l a slots) s = .next (nextPoll l (printReady k slots (s.acked l a))) := by
  change Host.Outcome.next (goodReply l a (deliverIf (decide (1 ≤ slots ∧ slots ≤ 8)) fun k => printReady k slots) s) = _
  rw [goodReply_of_polls h, deliverIf, if_pos (decide_eq_true ⟨h1, h8⟩)]

/-- Settles O49: a PRINTRDY is handled at a PRESENT kiosk, where its PRINT joins the queue. -/
theorem printerCreditSendsLines : Obligations.PrinterCreditSendsLines := by
  intro l a k slots s hpolls h1 h8 u
  rw [exec_printRdy hpolls h1 h8 a]
  refine ⟨fun j rest hj hstate hq hlines => ?_, fun hnone => ?_⟩
  · have hunsent : j.unsent ≠ [] := mt Job.unsent_eq_nil.mp (Nat.not_le.mpr hlines)
    rw [printReady_sends (present_acked hpolls a) hj hstate hq hunsent]
    rfl
  · rw [printReady_silent fun j rest hj => ?_]
    rcases hnone with hempty | ⟨i, is, hi, hsent⟩ | hfull
    · rw [hempty] at hj
      cases hj
    · obtain ⟨rfl, -⟩ := List.cons.inj (hi.symm.trans hj)
      exact hsent.imp_right fun h => .inr (Job.unsent_eq_nil.mpr h)
    · exact .inr (.inl hfull)

end Sys2Proof.Machine
end

section
/-! SUPPORT. The journal (chapter 9): what JOURNAL-READ and JOURNAL-POP answer on an empty queue and on one with an oldest
record (R161, R162), and the settlement of the statement of that chapter. -/

namespace Sys2Proof.Machine

theorem exec_journalRead (s : State) : exec .journalRead s = .next (depotRequest 0x49 doJournalRead s) := rfl
theorem exec_journalPop (s : State) : exec .journalPop s = .next (depotRequest 0x4A doJournalPop s) := rfl

section
variable {s : State}

/-! ### An empty queue -/

theorem doJournalRead_of_empty (h : s.journal.records = []) : doJournalRead s = (s, { status := .empty, data := [] }) := by
  rw [doJournalRead, h]
  rfl

theorem doJournalPop_of_empty (h : s.journal.records = []) : doJournalPop s = (s, { status := .empty, data := [] }) := by
  rw [doJournalPop, h]
  rfl

/-! ### A queue with an oldest record -/

variable {r : Record} {rest : List Record}

theorem Journal.occupancy_of_records {j : Journal} (h : j.records = r :: rest) :
    j.occupancy = rest.length + 1 + j.reservations := by
  rw [Journal.occupancy, h, List.length_cons]

/-- The oldest record is answered behind the number held, itself included (R161). -/
theorem doJournalRead_of_records (h : s.journal.records = r :: rest) :
    doJournalRead s = (s, { status := .ok, data := beBytes 2 (rest.length + 1) ++ r.bytes }) := by
  simp only [doJournalRead, h, readOut, List.length_cons]

/-- A pop keeps the other records and the reservations, and its fall from 192 clears the high flag (R162, R163). -/
theorem popRecord_of_records (h : s.journal.records = r :: rest) :
    popRecord s = { s with journal :=
      { records := rest, reservations := s.journal.reservations,
        highFlag := if rest.length + 1 + s.journal.reservations = 192 then false else s.journal.highFlag } } := by
  rw [popRecord, highAfterFall, Journal.occupancy_of_records h, h, List.drop_one, List.tail_cons, Config.journalHigh]

/-- The removed record's kiosk and serial are answered, and the number left (R162). -/
theorem doJournalPop_of_records (h : s.journal.records = r :: rest) :
    doJournalPop s =
      (popRecord s, { status := .ok, data := byte1 r.kiosk.val ++ beBytes 2 r.serial ++ beBytes 2 rest.length }) := by
  simp only [doJournalPop, h]

end

/-- Settles O50: the link supervision leaves the queue, so each handler meets it as the request found it. -/
theorem journalReadAndPop : Obligations.JournalReadAndPop := by
  intro s hs v
  have hqueue : v.journal = s.journal := frameForStation_journal s
  rw [← hqueue]
  refine ⟨fun hempty => ⟨?_, ?_⟩, fun r rest hrecords => ⟨?_, ?_⟩⟩
  · exact exec_answered hs (exec_journalRead s) (doJournalRead_of_empty hempty)
  · exact exec_answered hs (exec_journalPop s) (doJournalPop_of_empty hempty)
  · exact exec_answered hs (exec_journalRead s) (doJournalRead_of_records hrecords)
  · rw [← popRecord_of_records hrecords]
    exact exec_answered hs (exec_journalPop s) (doJournalPop_of_records hrecords)

end Sys2Proof.Machine
end

section
/-! SUPPORT. The Depot Clock and the service day (chapter 10): the calendar, what an elapsed second and a CLOCK-SET make of the
clock, the roll and the switch, and the settlement of the statements about them. -/

namespace Sys2Proof.Machine

/-! ### The calendar (R167) -/

theorem DateTime.real_iff {d : DateTime} : d.real = true ↔
    (2000 ≤ d.year ∧ d.year ≤ 2099 ∧ 1 ≤ d.month ∧ d.month ≤ 12 ∧ 1 ≤ d.day ∧ d.day ≤ monthDays d.year d.month) ∧
      d.hour ≤ 23 ∧ d.minute ≤ 59 ∧ d.second ≤ 59 := by
  rw [DateTime.real, realDate, Bool.and_eq_true, decide_eq_true_eq, decide_eq_true_eq]

theorem monthDays_pos (year month : Nat) : 1 ≤ monthDays year month := by
  unfold monthDays
  repeat' split
  all_goals decide

theorem daysBeforeMonth_succ (year : Nat) {month : Nat} (h : 1 ≤ month) :
    daysBeforeMonth year (month + 1) = daysBeforeMonth year month + monthDays year month :=
  if_neg (Nat.ne_of_gt h)

/-- The months before December have 334 days, and one more in a leap year. -/
theorem daysBeforeMonth_december (year : Nat) : daysBeforeMonth year 12 = if year % 4 = 0 then 335 else 334 := by
  by_cases hleap : year % 4 = 0 <;> simp [daysBeforeMonth, monthDays, isLeap, hleap]

/-- The day after one of the calendar has the next number, in the month, over its end and over the end of the year. -/
theorem dayNumber_nextDay {d : DateTime} (hyear : 2000 ≤ d.year) (hmonth : 1 ≤ d.month ∧ d.month ≤ 12)
    (hday : 1 ≤ d.day ∧ d.day ≤ monthDays d.year d.month) :
    dayNumber d.nextDay.year d.nextDay.month d.nextDay.day = dayNumber d.year d.month d.day + 1 := by
  unfold DateTime.nextDay
  split
  next => simp only [dayNumber]; omega
  next hlast =>
    split
    next => simp only [dayNumber, daysBeforeMonth_succ d.year hmonth.1]; omega
    next hend =>
      have hdecember : d.month = 12 := by omega
      have h31 : monthDays d.year 12 = 31 := rfl
      have hjanuary : daysBeforeMonth (d.year + 1) 1 = 0 := rfl
      rw [hdecember, h31] at hlast hday
      simp only [dayNumber, hdecember, hjanuary, daysBeforeMonth_december]
      split <;> omega

theorem DateTime.nextDay_time (d : DateTime) : d.nextDay.hour = 0 ∧ d.nextDay.minute = 0 ∧ d.nextDay.second = 0 := by
  unfold DateTime.nextDay; repeat' split
  all_goals exact ⟨rfl, rfl, rfl⟩

/-- The day after a real date is a real one, but after the last of the range. -/
theorem DateTime.real_nextDay {d : DateTime} (h : d.real = true) (hrange : d.year = 2099 → d.month = 12 → d.day ≠ 31) :
    d.nextDay.real = true := by
  obtain ⟨⟨hlow, hhigh, hm1, hm12, hd1, hd⟩, -⟩ := DateTime.real_iff.mp h
  rw [DateTime.real_iff]
  unfold DateTime.nextDay
  split
  next hin => exact ⟨⟨hlow, hhigh, hm1, hm12, Nat.le_add_left 1 _, hin⟩, by simp⟩
  next hlast =>
    split
    next hin => exact ⟨⟨hlow, hhigh, Nat.le_add_left 1 _, hin, le_rfl, monthDays_pos _ _⟩, by simp⟩
    next hend =>
      have hdecember : d.month = 12 := by omega
      have h31 : monthDays d.year d.month = 31 := by rw [hdecember]; rfl
      have hyear : d.year ≠ 2099 := fun hy => hrange hy hdecember (by omega)
      dsimp only
      exact ⟨⟨by omega, by omega, le_rfl, by decide, le_rfl, monthDays_pos _ _⟩, by simp⟩

/-- At the last second of a day the range has not ended, but at its last date-time. -/
theorem DateTime.range_of_ne_last {d : DateTime} (hne : d ≠ DateTime.last) (hh : d.hour = 23) (hm : d.minute = 59)
    (hs : d.second = 59) : d.year = 2099 → d.month = 12 → d.day ≠ 31 := by
  intro hy hmo hd
  apply hne
  obtain ⟨_, _, _, _, _, _⟩ := d
  cases hy; cases hmo; cases hd; cases hh; cases hm; cases hs
  rfl

theorem DateTime.advance_last : DateTime.last.advance = DateTime.last := rfl

/-- The clock shows a real date and time after an elapsed second (R167). -/
theorem DateTime.real_advance {d : DateTime} (h : d.real = true) : d.advance.real = true := by
  obtain ⟨hdate, hh, hm, hs⟩ := DateTime.real_iff.mp h
  unfold DateTime.advance
  split
  next => exact h
  next hne =>
    split
    next => exact DateTime.real_iff.mpr ⟨hdate, hh, hm, by simpa⟩
    next =>
      split
      next => exact DateTime.real_iff.mpr ⟨hdate, hh, by simpa, by simp⟩
      next =>
        split
        next => exact DateTime.real_iff.mpr ⟨hdate, by simpa, by simp, by simp⟩
        next => exact DateTime.real_nextDay h (DateTime.range_of_ne_last hne (by omega) (by omega) (by omega))

/-- Each second counts as one, through minute, hour, day, month and year (R167). -/
theorem DateTime.seconds_advance {d : DateTime} (h : d.real = true) (hne : d ≠ DateTime.last) :
    d.advance.seconds = d.seconds + 1 := by
  obtain ⟨⟨hlow, -, hm1, hm12, hd1, hd⟩, hh, hm, hs⟩ := DateTime.real_iff.mp h
  unfold DateTime.advance
  rw [if_neg hne]
  split
  next => rfl
  next =>
    split
    next => simp only [DateTime.seconds, DateTime.minutes, DateTime.minuteOfDay]; omega
    next =>
      split
      next => simp only [DateTime.seconds, DateTime.minutes, DateTime.minuteOfDay]; omega
      next =>
        obtain ⟨hh0, hm0, hs0⟩ := d.nextDay_time
        have hnext := dayNumber_nextDay hlow ⟨hm1, hm12⟩ ⟨hd1, hd⟩
        simp only [DateTime.seconds, DateTime.minutes, DateTime.minuteOfDay, hnext, hh0, hm0, hs0]
        omega

/-! ### The roll and the switch at the kiosks (R64, R165, R170) -/

section
variable (s : State) (k : Kiosk)

@[simp] theorem clearDaily_sess : (clearDaily s).sess k = s.sess k :=
  foldl_keeps (fun j t => t.setDaily j _) (fun t => t.sess k) (fun _ _ => by simp) allKiosks s
@[simp] theorem clearDaily_cash : (clearDaily s).cash k = s.cash k :=
  foldl_keeps (fun j t => t.setDaily j _) (fun t => t.cash k) (fun _ _ => by simp) allKiosks s

@[simp] theorem judgeRoll_sess : (judgeRoll s).sess k = s.sess k := by
  unfold judgeRoll; split <;> simp [dayRoll, clearOffline]
@[simp] theorem judgeRoll_cash : (judgeRoll s).cash k = s.cash k := by
  unfold judgeRoll; split <;> simp [dayRoll, clearOffline]
@[simp] theorem judgeSwitch_sess : (judgeSwitch s).sess k = s.sess k := by
  unfold judgeSwitch; repeat' split
  all_goals simp [makeSwitch]
@[simp] theorem judgeSwitch_cash : (judgeSwitch s).cash k = s.cash k := by
  unfold judgeSwitch; repeat' split
  all_goals simp [makeSwitch]

/-- A switch raises BANK_SWITCHED alone (R64). -/
theorem judgeSwitch_event {e : EventKind} (h : e ≠ .bankSwitched) :
    (judgeSwitch s).depot.events[e.no] = s.depot.events[e.no] := by
  unfold judgeSwitch; repeat' split
  · rfl
  · simp only [makeSwitch, recomputeAll_depot, events_raise, if_neg h]
  · rfl

end

theorem foldl_setDaily (v : Daily) (l : List Kiosk) (s : State) (k : Kiosk) :
    (l.foldl (fun t j => t.setDaily j v) s).daily k = if k ∈ l then v else s.daily k := by
  induction l generalizing s with
  | nil => rfl
  | cons j l ih =>
    rw [List.foldl_cons, ih, State.daily_setDaily]
    by_cases hl : k ∈ l <;> by_cases hj : k = j <;> simp [hl, hj]

/-- Both daily counters of every kiosk are cleared (R165). -/
theorem clearDaily_daily (s : State) (k : Kiosk) : (clearDaily s).daily k = ⟨0, 0⟩ :=
  (foldl_setDaily _ allKiosks s k).trans (if_pos (by revert k; decide))

theorem judgeRoll_daily {s : State} (h : s.clock.heldDay < computedDay s) (k : Kiosk) : (judgeRoll s).daily k = ⟨0, 0⟩ := by
  rw [judgeRoll, if_pos h, dayRoll, clearDaily_daily]

/-! ### A VALID clock at a new date-time (R167, R168, R170) -/

/-- What `t` has become of `s` as the clock showed `d`: the held day is the computed one where that is higher, a day roll
raises DAY_ROLLED and clears the daily counters, and no session, no cash and no record is touched. -/
structure RolledTo (d : DateTime) (s t : State) : Prop where
  clock : t.clock = { s.clock with dateTime := d, heldDay := max s.clock.heldDay (serviceDay d s.settings.boundary) }
  rolls : s.clock.heldDay < serviceDay d s.settings.boundary →
    (t.depot.events[EventKind.dayRolled.no]).on = true ∧ ∀ k, t.daily k = ⟨0, 0⟩
  journal : t.journal = s.journal
  kiosk : ∀ k, t.sess k = s.sess k ∧ t.cash k = s.cash k

theorem judgeRoll_rolledTo (d : DateTime) (s : State) :
    RolledTo d s (judgeRoll { s with clock := { s.clock with dateTime := d } }) where
  clock := judgeRoll_clock _
  rolls := fun h => ⟨judgeRoll_raises _ h, judgeRoll_daily h⟩
  journal := judgeRoll_journal _
  kiosk := fun k => ⟨judgeRoll_sess _ k, judgeRoll_cash _ k⟩

theorem RolledTo.judgeSwitch {d : DateTime} {s t : State} (h : RolledTo d s t) : RolledTo d s (judgeSwitch t) where
  clock := (judgeSwitch_clock t).trans h.clock
  rolls := by
    rw [judgeSwitch_event t (by decide)]
    simpa only [judgeSwitch_daily] using h.rolls
  journal := (judgeSwitch_journal t).trans h.journal
  kiosk := by simpa only [judgeSwitch_sess, judgeSwitch_cash] using h.kiosk

theorem clockTo_rolledTo (d : DateTime) (s : State) : RolledTo d s (clockTo d s) := (judgeRoll_rolledTo d s).judgeSwitch

/-- A VALID clock goes on by one second, whether or not the minute's end judges the switch (R167, R172). -/
theorem clockTick_rolledTo {s : State} (h : s.clock.state = .valid) : RolledTo s.clock.dateTime.advance s (clockTick s) := by
  unfold clockTick
  split
  next hinvalid => exact absurd (h.symm.trans hinvalid) (by decide)
  next =>
    dsimp only
    split
    · exact judgeRoll_rolledTo _ s
    · exact (judgeRoll_rolledTo _ s).judgeSwitch

theorem clockTick_invalid {s : State} (h : s.clock.state = .invalid) : clockTick s = s := by simp only [clockTick, h]

/-- Settles O51: the clock's next second is the calendar's, and the roll is judged with it. -/
theorem clockAdvancesOneSecond : Obligations.ClockAdvancesOneSecond := by
  intro s
  refine ⟨fun hinvalid => congrArg Host.Outcome.next (clockTick_invalid hinvalid), fun hvalid hreal => ?_⟩
  obtain ⟨hclock, hrolls, hjournal, hkiosk⟩ := clockTick_rolledTo hvalid
  have hnow : (clockTick s).clock.dateTime = s.clock.dateTime.advance := congrArg Clock.dateTime hclock
  have hday := congrArg Clock.heldDay hclock
  refine ⟨clockTick s, rfl, (congrArg Clock.state hclock).trans hvalid, ?_⟩
  rw [hnow, hday]
  exact ⟨DateTime.real_advance hreal, fun hlast => by rw [hlast]; exact DateTime.advance_last,
    DateTime.seconds_advance hreal, rfl, fun hrise => hrolls ((lt_max_iff.mp hrise).resolve_left (lt_irrefl _)), hjournal, hkiosk⟩

/-! ### CLOCK-SET (R169) -/

theorem exec_clockSet (f : DateTimeField) (s : State) : exec (.clockSet f) s = .next (depotRequest 0x41 (doClockSet f) s) := rfl

theorem real_of_dateTimeOf {f : DateTimeField} {d : DateTime} (h : dateTimeOf f = some d) : d.real = true := by
  simp only [dateTimeOf] at h
  split at h
  next hreal => cases h; exact hreal
  next => cases h

theorem doClockSet_refused {f : DateTimeField} (h : dateTimeOf f = none) (s : State) :
    doClockSet f s = (s, { status := .badField, data := [] }) := by
  rw [doClockSet, h]
  rfl
theorem doClockSet_taken {f : DateTimeField} {d : DateTime} (h : dateTimeOf f = some d) (s : State) :
    doClockSet f s = (setClock d s, { status := .ok, data := [] }) := by
  rw [doClockSet, h]
  rfl

/-- What `t` has become of `s` by its first set to `d`: VALID at the computed service day, with no roll. -/
structure FirstSet (d : DateTime) (s t : State) : Prop where
  clock : t.clock = ⟨d, .valid, serviceDay d s.settings.boundary⟩
  unrolled : t.depot.events[EventKind.dayRolled.no] = s.depot.events[EventKind.dayRolled.no] ∧ ∀ k, t.daily k = s.daily k
  journal : t.journal = s.journal
  sess : ∀ k, t.sess k = s.sess k

theorem setClock_first {s : State} (h : s.clock.state = .invalid) (d : DateTime) : FirstSet d s (setClock d s) := by
  simp only [setClock, h]
  exact ⟨judgeSwitch_clock _, ⟨judgeSwitch_event _ (by decide), judgeSwitch_daily _⟩, judgeSwitch_journal _, judgeSwitch_sess _⟩

theorem setClock_later {s : State} (h : s.clock.state = .valid) (d : DateTime) : setClock d s = clockTo d s := by
  simp only [setClock, h]

/-- A frame to this station raises LINK_RESTORED at most (R177). -/
theorem frameForStation_event (s : State) {e : EventKind} (h : e ≠ .linkRestored) :
    (frameForStation s).depot.events[e.no] = s.depot.events[e.no] := by
  unfold frameForStation enterOnline
  split
  next => exact (events_raise _ e none _).trans (if_neg h)
  next => exact (events_raise _ e none _).trans (if_neg h)
  next => rfl

/-- Settles O52: the first set judges no roll, and a later one shows the date-time on a VALID clock. -/
theorem clockSetKeepsHeldDay : Obligations.ClockSetKeepsHeldDay := by
  intro f s hs v
  refine ⟨fun hbad => exec_answered hs (exec_clockSet f s) (doClockSet_refused hbad _), fun d hd => ?_⟩
  refine ⟨_, exec_answered hs (exec_clockSet f s) (doClockSet_taken hd _), ?_⟩
  have hreal := real_of_dateTimeOf hd
  have hvc : v.clock = s.clock := frameForStation_clock s
  have hvs : v.settings = s.settings := frameForStation_settings s
  simp only [withReply_shared, withReply_depot, withReply_daily, withReply_sess]
  cases hstate : s.clock.state with
  | invalid =>
    obtain ⟨hclock, ⟨hevent, hdaily⟩, hjournal, hsess⟩ := setClock_first (s := v) (by rw [hvc, hstate]) d
    rw [hvs] at hclock
    refine ⟨congrArg Clock.dateTime hclock, congrArg Clock.state hclock, hreal, fun _ => ⟨congrArg Clock.heldDay hclock, ?_, ?_⟩,
      nofun, hjournal.trans (frameForStation_journal s), fun k => (hsess k).trans (frameForStation_sess s k)⟩
    · exact hevent.trans (frameForStation_event s (by decide))
    · exact fun k => (hdaily k).trans (frameForStation_daily s k)
  | valid =>
    obtain ⟨hclock, hrolls, hjournal, hkiosk⟩ := clockTo_rolledTo d v
    rw [setClock_later (by rw [frameForStation_clock, hstate])]
    rw [hvc, hvs] at hclock hrolls
    exact ⟨congrArg Clock.dateTime hclock, (congrArg Clock.state hclock).trans hstate, hreal, nofun,
      fun _ => ⟨congrArg Clock.heldDay hclock, hrolls⟩, hjournal.trans (frameForStation_journal s),
      fun k => (hkiosk k).1.trans (frameForStation_sess s k)⟩

end Sys2Proof.Machine
end

section
/-! SUPPORT. The held service day (R167, R168): only an elapsed second, a CLOCK-SET, a write of the boundary and the end of a
warm restart move the clock, and none of them takes it back. -/

namespace Sys2Proof.Machine

/-! ### The clock only goes forward -/

/-- From a clock `c` to a clock `d` the VALID state has lasted and the held day has not fallen. -/
def Clock.Goes (c d : Clock) : Prop := c.state = .valid → d.state = .valid ∧ c.heldDay ≤ d.heldDay

theorem Clock.goes_of_eq {c d : Clock} (h : d = c) : c.Goes d := fun hv => by rw [h]; exact ⟨hv, le_rfl⟩

theorem Clock.Goes.trans {c d e : Clock} (h : c.Goes d) (g : d.Goes e) : c.Goes e := fun hv =>
  have ⟨hd, hcd⟩ := h hv
  have ⟨he, hde⟩ := g hd
  ⟨he, hcd.trans hde⟩

theorem RolledTo.goes {d : DateTime} {s t : State} (h : RolledTo d s t) : s.clock.Goes t.clock := by
  intro hv
  rw [h.clock]
  exact ⟨hv, le_max_left _ _⟩

theorem clockTick_goes (s : State) : s.clock.Goes (clockTick s).clock := fun hv => (clockTick_rolledTo hv).goes hv

theorem setClock_goes (d : DateTime) (s : State) : s.clock.Goes (setClock d s).clock := by
  intro hv
  rw [setClock_later hv]
  exact (clockTo_rolledTo d s).goes hv

theorem clockAfterRestart_goes (seconds : Nat) {c : Clock} {s : State} (h : s.clock = c) :
    c.Goes (clockAfterRestart seconds s).clock := by
  subst h
  intro hv
  rw [clockAfterRestart_valid seconds s hv]
  exact (clockTo_rolledTo _ s).goes hv

theorem judgeRoll_goes {c : Clock} {s : State} (h : s.clock = c) : c.Goes (judgeRoll s).clock :=
  h ▸ (judgeRoll_rolledTo s.clock.dateTime s).goes

theorem clock_of_univ {s t : State} (h : t.outside .univ = s.outside .univ) : t.clock = s.clock := congrArg Outside.clock h

theorem endRestart_goes (seconds : Nat) (s : State) : s.clock.Goes (endRestart seconds s).clock := by
  rw [endRestart, clock_of_univ (startLoops_outside _), recomputeAll_clock,
    foldl_keeps (fun e t => raiseLevel e t) (fun t => t.clock) (fun _ _ => clock_of_univ (by simp))]
  exact clockAfterRestart_goes seconds rfl

/-- Nothing in a warm restart but its elapsed seconds moves the clock (R173). -/
theorem warmRestart_goes (c : RestartCause) (w : WarmStart) (s : State) : s.clock.Goes (warmRestart c w s).clock := by
  refine (Clock.goes_of_eq (clock_of_univ ?_)).trans (endRestart_goes w.seconds _)
  rw [atEveryKiosk_outside (by simp [displayRestart]), atEveryKiosk_outside (by simp), atEveryKiosk_outside (by simp),
    atEveryKiosk_outside (by simp), cardsRestart_outside, atEveryKiosk_outside (by simp)]
  rfl

/-! ### The requests (R169, R171) -/

/-- A handler that leaves the clock alone. -/
def Handler.KeepsClock (h : Handler) : Prop := ∀ s, (h s).1.clock = s.clock

/-- A handler under which the clock goes only forward. -/
def Handler.ClockGoes (h : Handler) : Prop := ∀ s : State, s.clock.Goes (h s).1.clock

theorem Handler.KeepsClock.goes {h : Handler} (hh : h.KeepsClock) : h.ClockGoes := fun s => Clock.goes_of_eq (hh s)

theorem doClockSet_goes (f : DateTimeField) : (doClockSet f).ClockGoes := by
  intro s
  cases hd : dateTimeOf f with
  | none => rw [doClockSet_refused hd]; exact Clock.goes_of_eq rfl
  | some d => rw [doClockSet_taken hd]; exact setClock_goes d s

/-- Of the settings' writes only the boundary's judges a roll (R171). -/
theorem doWriteSettings_goes (i : Byte) (v : Half) : (doWriteSettings i v).ClockGoes := by
  intro s
  simp only [doWriteSettings]
  repeat' split
  · exact Clock.goes_of_eq rfl
  · exact Clock.goes_of_eq rfl
  · rw [taken_state]
    split
    · exact judgeRoll_goes rfl
    · exact Clock.goes_of_eq rfl

theorem sized_keepsClock {α : Type} (l : List α) (n : Nat) {h : Handler} (hh : h.KeepsClock) : (sized l n h).KeepsClock := by
  intro s
  unfold sized; split
  · exact hh s
  · rfl

theorem bankedWrite_keepsClock (bank : Byte) (f : Bank → Except Status Bank) : (bankedWrite bank f).KeepsClock := by
  intro s
  simp only [bankedWrite]; repeat' split
  all_goals rfl

theorem kioskControl_keepsClock (kiosk : Byte) (refused : Kiosk → State → Bool) {act : Kiosk → State → State}
    (h : ∀ k t, (act k t).outside .univ = t.outside .univ) : (kioskControl kiosk refused act).KeepsClock := by
  intro s
  refine clock_of_univ ?_
  simp only [kioskControl]; repeat' split
  all_goals simp [h]

theorem writeCoin_clock (t : CoinType) (e : Option CoinEntry) (s : State) : (writeCoin t e s).clock = s.clock := by
  rw [writeCoin, recomputeAll_clock]
  exact foldl_keeps (fun k x => tableChangedAt k x) (fun x => x.clock)
    (fun k x => clock_of_univ (tableChangedAt_outside (Finset.mem_univ k) x)) allKiosks _

theorem foldl_stopListHit_clock (n : Nat) (s : State) : (allKiosks.foldl (fun t k => stopListHit n k t) s).clock = s.clock :=
  foldl_keeps (fun k t => stopListHit n k t) (fun t => t.clock) (fun _ _ => clock_of_univ (by simp)) allKiosks s

/-- Only CLOCK-SET and the settings' writes reach the clock. -/
theorem handlerOf_clockGoes {i : Instr} {h : Handler} (hi : handlerOf i = some h) : h.ClockGoes := by
  cases i <;> cases hi
  case clockSet d => exact doClockSet_goes d
  case tableWriteSettings i v => exact doWriteSettings_goes i v
  all_goals apply Handler.KeepsClock.goes
  case statusRead | tableReadSettings | authFetch | eventsRead | stoplistClear | restart => exact fun _ => rfl
  case tableWriteHeader | tableWriteProduct | tableWriteFare | tableWriteBand | tableWriteDayplan | tableWriteClass =>
    exact sized_keepsClock _ _ (bankedWrite_keepsClock _ _)
  case tableWriteHoliday => exact bankedWrite_keepsClock _ _
  case kioskControlInService | kioskControlOutOfService | kioskControlBlock | kioskControlRelease | kioskControlModeLatched |
      kioskControlModeFollowing =>
    exact kioskControl_keepsClock _ _ (by simp)
  case tableWriteTemplate =>
    refine sized_keepsClock _ _ fun s => ?_
    repeat' split
    all_goals rfl
  all_goals intro s
  case tableReadLoop | tableReadKiosk | tableReadCalib | tableReadCoin | tableReadTube | tableReadTemplate | kioskRead |
      journalRead | journalPop | switchCancel | eventsMask =>
    simp only [doReadLoop, doReadKiosk, doReadCalib, doReadCoin, doReadTube, doReadTemplate, doKioskRead, doJournalRead,
      doJournalPop, doSwitchCancel, doEventsMask]
    split <;> rfl
  case tableReadBanked | stoplistRemove =>
    simp only [doReadBanked, doStoplistRemove]; repeat' split
    all_goals rfl
  case tableWriteLoop | tableWriteCalib =>
    simp only [doWriteLoop, doWriteCalib]; repeat' split
    all_goals simp
  case tableWriteCoin =>
    simp only [doWriteCoin]; repeat' split
    all_goals simp [writeCoin_clock]
  case stoplistAdd =>
    simp only [doStoplistAdd]; repeat' split
    all_goals simp [foldl_stopListHit_clock, State.setStop]
  case bankSwitch =>
    simp only [doBankSwitch]; repeat' split
    all_goals simp only [refuse_state, taken_state]
    split <;> simp [makeSwitch]
  all_goals refine clock_of_univ ?_
  case tableWriteKiosk | tableWriteTube | authAnswer =>
    simp only [doWriteKiosk, doWriteTube, doAuthAnswer]; repeat' split
    all_goals simp
  case eventsClear => unfold doEventsClear; split <;> simp
  case floatSet =>
    unfold doFloatSet; repeat' split
    all_goals simp [setFloat]
  case modeSetLoading | modeSetSelling | modeSetSuspended =>
    simp only [doModeLoading, doModeSelling, doModeSuspended]; repeat' split
    all_goals simp [incomplete]

theorem doRaw_clockGoes (kind : Byte) (p : List Byte) : (doRaw kind p).ClockGoes := by
  intro s
  unfold doRaw; split
  next h hi => exact handlerOf_clockGoes hi s
  next => exact Clock.goes_of_eq rfl

/-- A request moves the clock by its handler alone, heard or not (R175). -/
theorem depotRequest_goes {h : Handler} (hh : h.ClockGoes) (kind : Byte) (s : State) : s.clock.Goes (depotRequest kind h s).clock := by
  have hv : s.clock.Goes (frameForStation s).clock := Clock.goes_of_eq (frameForStation_clock s)
  unfold depotRequest received
  split
  · exact Clock.goes_of_eq rfl
  · dsimp only
    split
    · exact hv
    · exact hv.trans (hh _)

/-! ### Every command but a cold start -/

theorem received_noReply_clock {f : State → State} (h : ∀ t, (f t).clock = t.clock) (s : State) :
    (received (fun t => (f t).noReply) s).clock = s.clock := by
  unfold received; split
  · rfl
  · exact h s
theorem frameForOther_clock (s : State) : (frameForOther s).clock = s.clock := by
  unfold frameForOther; split <;> rfl
theorem supervisionExpired_clock (s : State) : (supervisionExpired s).clock = s.clock := by
  unfold supervisionExpired; split
  · exact clock_of_univ (linkLoss_outside _)
  · rfl

/-- Of the commands that are neither requests nor replies, only an elapsed second and a warm restart move the clock. -/
theorem exec_event_goes {i : Instr} (hreq : handlerOf i = none) (hrep : i.replyLine = none) (hcold : ∀ pins, i ≠ .coldStart pins)
    {s t : State} (h : exec i s = .next t) : s.clock.Goes t.clock := by
  cases i <;> cases hreq <;> cases hrep <;> obtain rfl := Host.Outcome.next.inj h
  case coldStart pins => exact absurd rfl (hcold pins)
  case clockSecond => exact clockTick_goes s
  case resetPin w => exact warmRestart_goes .pin w s
  case commandRestart w =>
    split
    · exact warmRestart_goes .command w s
    · exact Clock.goes_of_eq rfl
  case badKind kind p =>
    split
    · exact Clock.goes_of_eq (received_noReply_clock frameForStation_clock s)
    · exact depotRequest_goes (doRaw_clockGoes kind p) kind s
  all_goals apply Clock.goes_of_eq
  case frameAbandoned | missNoReply | missBadCheck | missWrongAddress => exact clock_of_univ (missExchange_outside _ s)
  case inactivityTimerExpiry | authorisationTimerExpiry | cardWriteTimerExpiry | payoutTimerExpiry =>
    exact clock_of_univ (by split <;> simp)
  case supervisionTimerExpiry => exact supervisionExpired_clock s
  case holdTimerExpiry => unfold holdExpired; split <;> rfl
  case huntStepExpiry => unfold huntExpired; split <;> rfl
  case depotBadFrame => exact received_noReply_clock (f := id) (fun _ => rfl) s
  case depotFrameOtherStation => exact received_noReply_clock frameForOther_clock s
  case depotFrameNoReply => exact received_noReply_clock frameForStation_clock s

/-- Settles O53: a command is a request, a good reply, or one of the others. -/
theorem heldDayNeverFalls : Obligations.HeldDayNeverFalls := by
  intro c s t hcold hvalid h
  suffices hgoes : s.clock.Goes t.clock from hgoes hvalid
  cases hreq : handlerOf c with
  | some hd =>
    obtain ⟨kind, he⟩ := exec_request hreq s
    cases he.symm.trans h
    exact depotRequest_goes (handlerOf_clockGoes hreq) kind s
  | none =>
    cases hrep : c.replyLine with
    | some p => exact Clock.goes_of_eq (clock_of_univ (exec_reply_outside hrep h))
    | none => exact exec_event_goes hreq hrep hcold h

end Sys2Proof.Machine
end

section
/-! SUPPORT. The cold start (R188): each block at its cold values. -/

namespace Sys2Proof.Machine

theorem exec_coldStart (pins : Fin 32) (s : State) : exec (.coldStart pins) s = .next (State.cold pins s.pending) := rfl

section
variable (pins : Fin 32) (queue : List Instr)

@[simp] theorem cold_ctx (k : Kiosk) : (State.cold pins queue).ctx k = KioskCtx.cold := Vector.getElem_replicate k.isLt

theorem cold_loop (l : LoopId) : (State.cold pins queue).loop l = LoopCtl.cold (loopLast l) := by cases l <;> rfl

theorem cold_bank (i : BankId) : (State.cold pins queue).tariff.bank i = Bank.cold := by cases i <;> rfl

/-- RESTARTED is pending and unmasked, and no other kind is either (R184, R185). -/
theorem cold_events (e : EventKind) :
    ((Depot.cold pins).events[e.no]).on = decide (e = .restarted) ∧ ((Depot.cold pins).events[e.no]).kiosks = [] ∧
      (Depot.cold pins).unmasked[e.no] = decide (e = .restarted) := by
  cases e <;> exact ⟨rfl, rfl, rfl⟩

end

/-- Settles O7, block by block. -/
theorem coldStartValues : Obligations.ColdStartValues := by
  intro pins s
  have unit : ∀ {α : Type} {n : Nat} (x : α) (i : Fin n), (Vector.replicate n x)[i] = x := fun _ i =>
    Vector.getElem_replicate i.isLt
  refine ⟨_, exec_coldStart pins s, ⟨rfl, rfl, rfl, rfl, rfl, rfl, rfl, cold_events pins⟩, ⟨rfl, rfl, rfl⟩,
    ⟨rfl, rfl, rfl, rfl, rfl, rfl, rfl⟩, fun l => ?loop, fun k => ?link, fun k => ?coinAndCash, fun k => ?session, unit none,
    fun i p => ?template, ⟨rfl, fun i => ?bank⟩, ⟨rfl, rfl, rfl, rfl, rfl, rfl, rfl⟩, ⟨rfl, rfl, rfl⟩⟩
  case loop =>
    rw [cold_loop]
    exact ⟨rfl, rfl, rfl, rfl, rfl, rfl, rfl⟩
  case link =>
    rw [State.link, cold_ctx]
    exact ⟨rfl, rfl, rfl, rfl, rfl, rfl, rfl, rfl, rfl, rfl, rfl, rfl, rfl, rfl⟩
  case coinAndCash =>
    rw [State.coin, State.cash, cold_ctx]
    exact ⟨rfl, rfl, rfl, rfl, rfl, rfl, rfl, rfl, rfl, rfl, rfl, rfl, unit Tube.cold⟩
  case session =>
    simp only [State.sess, State.disp, State.kcard, State.jobs, State.daily, State.svc, cold_ctx]
    exact ⟨rfl, rfl, rfl, rfl, rfl, rfl, rfl, rfl⟩
  case template => simp [State.cold]
  case bank =>
    rw [cold_bank]
    exact ⟨rfl, rfl, unit none, unit _, fun n => ⟨unit _ n, unit none n, unit _ n⟩, unit none⟩

end Sys2Proof.Machine
end

section
/-! SUPPORT. The depot link (sections 11.1 to 11.3): its timers, what a good frame does to it, the frames that earn no reply and the
refusals of a request by its envelope; first what the doings of the other blocks leave of the depot line. -/

namespace Sys2Proof.Machine

/-! ### The depot line under the doings of the other blocks (R184) -/

/-- The depot line without its pending set: what the other blocks leave alone. -/
def Depot.line (d : Depot) : Depot := { d with events := Vector.replicate 24 { on := false, kiosks := [] } }

/-- From `s` to `t` kinds have been raised at most: the rest of the depot line stands, and what was pending still is. -/
structure RaisedFrom (s t : State) : Prop where
  line : t.depot.line = s.depot.line
  pending : ∀ e : EventKind, (s.depot.events[e.no]).on = true → (t.depot.events[e.no]).on = true

namespace RaisedFrom
variable {s t u : State}

theorem of_depot (h : t.depot = s.depot) : RaisedFrom s t := ⟨by rw [h], fun e => by rw [h]; exact id⟩
theorem trans (h : RaisedFrom s t) (g : RaisedFrom t u) : RaisedFrom s u :=
  ⟨g.line.trans h.line, fun e he => g.pending e (h.pending e he)⟩
/-- What leaves the depot line alone may come before. -/
theorem after (g : RaisedFrom t u) (h : t.depot = s.depot) : RaisedFrom s u := (of_depot h).trans g

section
variable (h : RaisedFrom s t)
include h
theorem station : t.depot.station = s.depot.station := congrArg (·.station) h.line
theorem link : t.depot.link = s.depot.link := congrArg (·.link) h.line
theorem linkTimerMs : t.depot.linkTimerMs = s.depot.linkTimerMs := congrArg (·.linkTimerMs) h.line
theorem cause : t.depot.cause = s.depot.cause := congrArg (·.cause) h.line
theorem mode : t.depot.mode = s.depot.mode := congrArg (·.mode) h.line
theorem unmasked : t.depot.unmasked = s.depot.unmasked := congrArg (·.unmasked) h.line
theorem restartOwed : t.depot.restartOwed = s.depot.restartOwed := congrArg (·.restartOwed) h.line
end

end RaisedFrom

theorem raise_raisedFrom (e : EventKind) (n : Option Kiosk) (s : State) : RaisedFrom s (raise e n s) where
  line := rfl
  pending := fun f hf => by
    rw [events_raise]
    split
    · rfl
    · exact hf

theorem raiseLevel_raisedFrom (e : EventKind) (s : State) : RaisedFrom s (raiseLevel e s) := by
  unfold raiseLevel
  split
  · exact raise_raisedFrom e none s
  · exact .of_depot rfl

theorem judgeFloat_raisedFrom (s : State) : RaisedFrom s (judgeFloat s) := by
  simp only [judgeFloat]
  refine .trans ?_ (raiseLevel_raisedFrom _ _)
  split
  · exact (raise_raisedFrom _ _ _).after rfl
  · exact .of_depot rfl

theorem regrant_raisedFrom (k : Kiosk) (c : Cards) (g : Option Grant) (s : State) : RaisedFrom s (s.regrant k c g) :=
  (judgeFloat_raisedFrom _).after rfl

/-- A relation that each step keeps is kept by the fold of the step. -/
theorem foldl_related {α : Type} {R : State → State → Prop} (hrefl : ∀ s, R s s) (htrans : ∀ {s t u}, R s t → R t u → R s u)
    (f : α → State → State) (h : ∀ a s, R s (f a s)) (l : List α) (s : State) : R s (l.foldl (fun t a => f a t) s) := by
  induction l generalizing s with
  | nil => exact hrefl s
  | cons a l ih => exact htrans (h a s) (ih (f a s))

/-! ### The loss of the link (R129, R177) -/

@[simp] theorem sessionGranted_depot (k : Kiosk) (a : AuthState) (held : Nat) (s : State) :
    (sessionGranted k a held s).depot = s.depot := by simp [sessionGranted, enterPaying, startInactivity]
@[simp] theorem sessionDenied_depot (k : Kiosk) (m : Message) (s : State) : (sessionDenied k m s).depot = s.depot := by
  simp [sessionDenied, startInactivity, releaseReservation]

/-- The offline rule lists no request. -/
theorem decideOffline_authList (k : Kiosk) (s : State) : (decideOffline k s).cards.authList = s.cards.authList := by
  unfold decideOffline
  split
  next c a _ _ _ =>
    cases hd : offlineDenial s c.number a with
    | none => simp [offlineRule_granted hd, State.regrant, Cards.afterGrant]
    | some m => simp [offlineRule_denied hd]
  next => rfl

theorem decideOffline_raisedFrom (k : Kiosk) (s : State) : RaisedFrom s (decideOffline k s) := by
  unfold decideOffline
  split
  next c a _ _ _ =>
    cases hd : offlineDenial s c.number a with
    | none =>
      rw [offlineRule_granted hd]
      exact .trans (regrant_raisedFrom k _ _ s) (.of_depot (sessionGranted_depot ..))
    | some m =>
      rw [offlineRule_denied hd]
      exact .trans (judgeFloat_raisedFrom s) (.of_depot (sessionDenied_depot ..))
  next => exact .of_depot rfl

/-- One listed request is concluded at the loss of the link (R129). -/
def lossAt (e : AuthEntry) (s : State) : State :=
  decideOffline e.kiosk ((conclude e.kiosk .linkLoss (unlist e.kiosk s)).updSess e.kiosk (fun x => { x with tAuthorisation := none }))

theorem linkLoss_eq_foldl (s : State) : linkLoss s = s.cards.authList.foldl (fun t e => lossAt e t) s := rfl

theorem lossAt_authList (e : AuthEntry) (s : State) :
    (lossAt e s).cards.authList = s.cards.authList.filter (fun x => decide (x.kiosk ≠ e.kiosk)) := by
  rw [lossAt, decideOffline_authList]
  rfl

/-- A request that is still listed was so before, and is none of those concluded. -/
theorem mem_foldl_lossAt {l : List AuthEntry} {s : State} {x : AuthEntry}
    (h : x ∈ (l.foldl (fun t e => lossAt e t) s).cards.authList) : x ∈ s.cards.authList ∧ x ∉ l := by
  induction l generalizing s with
  | nil => exact ⟨h, List.not_mem_nil⟩
  | cons e l ih =>
    obtain ⟨hx, hl⟩ := ih h
    rw [lossAt_authList, List.mem_filter, decide_eq_true_eq] at hx
    obtain ⟨hx, hne⟩ := hx
    exact ⟨hx, List.not_mem_cons_of_ne_of_not_mem (fun he => hne (congrArg AuthEntry.kiosk he)) hl⟩

/-- The loss of the link concludes every listed request (R129). -/
theorem linkLoss_authList (s : State) : (linkLoss s).cards.authList = [] := by
  rw [linkLoss_eq_foldl]
  refine List.eq_nil_iff_forall_not_mem.mpr fun _ hx => ?_
  obtain ⟨hlisted, hnot⟩ := mem_foldl_lossAt hx
  exact hnot hlisted

theorem linkLoss_raisedFrom (s : State) : RaisedFrom s (linkLoss s) :=
  foldl_related (fun _ => .of_depot rfl) .trans lossAt
    (fun e _ => (decideOffline_raisedFrom e.kiosk _).after rfl) s.cards.authList s

/-! ### The timers of the link (R176, R177) -/

section
variable {s : State} {r : DepotRate}

theorem exec_supervision_online (h : s.depot.link = .online r) :
    exec .supervisionTimerExpiry s = .next (linkLoss (s.setLink (.hold r))) :=
  congrArg Host.Outcome.next (by simp only [supervisionExpired, h])
theorem exec_supervision_stopped (h : ∀ r, s.depot.link ≠ .online r) : exec .supervisionTimerExpiry s = .next s := by
  refine congrArg Host.Outcome.next ?_
  unfold supervisionExpired
  split
  next r hr => exact absurd hr (h r)
  next => rfl

theorem exec_hold (h : s.depot.link = .hold r) : exec .holdTimerExpiry s = .next (s.setLink (.search .r9600)) :=
  congrArg Host.Outcome.next (by simp only [holdExpired, h])
theorem exec_hold_stopped (h : ∀ r, s.depot.link ≠ .hold r) : exec .holdTimerExpiry s = .next s := by
  refine congrArg Host.Outcome.next ?_
  unfold holdExpired
  split
  next r hr => exact absurd hr (h r)
  next => rfl

theorem exec_hunt (h : s.depot.link = .search r) : exec .huntStepExpiry s = .next (s.setLink (.search r.next)) :=
  congrArg Host.Outcome.next (by simp only [huntExpired, h])
theorem exec_hunt_stopped (h : ∀ r, s.depot.link ≠ .search r) : exec .huntStepExpiry s = .next s := by
  refine congrArg Host.Outcome.next ?_
  unfold huntExpired
  split
  next r hr => exact absurd hr (h r)
  next => rfl

/-! ### A good frame (R176, R177) -/

theorem frameForStation_online (h : s.depot.link = .online r) : frameForStation s = s.setLink (.online r) := by
  simp only [frameForStation, h]
theorem frameForStation_enters (h : s.depot.link = .search r ∨ s.depot.link = .hold r) :
    frameForStation s = enterOnline r s := by
  obtain h | h := h <;> simp only [frameForStation, h]

/-- The link enters ONLINE: the supervision runs, and LINK_RESTORED is pending (R177). -/
theorem enterOnline_link (r : DepotRate) (s : State) :
    (enterOnline r s).depot.link = .online r ∧ (enterOnline r s).depot.linkTimerMs = 1000 * s.settings.supervision ∧
      ((enterOnline r s).depot.events[EventKind.linkRestored.no]).on = true := by
  have hraised := events_raise .linkRestored .linkRestored none (s.setLink (.online r))
  rw [if_pos rfl] at hraised
  exact ⟨rfl, rfl, congrArg EventSlot.on hraised⟩

/-- Settles O54: each timer in the state it runs in and in the others, then the frame that finds the link ONLINE and the one
that does not. -/
theorem depotLinkChangesState : Obligations.DepotLinkChangesState := by
  refine ⟨fun s r => ⟨fun h => ?_, fun h => ?_, fun h => ?_⟩, fun s r => ⟨frameForStation_online, fun h => ?_⟩⟩
  · have hloss := linkLoss_raisedFrom (s.setLink (.hold r))
    exact ⟨_, exec_supervision_online h, hloss.link, hloss.linkTimerMs, linkLoss_authList _, exec_hold_stopped (by simp [h]),
      exec_hunt_stopped (by simp [h])⟩
  · exact ⟨exec_hold h, exec_supervision_stopped (by simp [h]), exec_hunt_stopped (by simp [h])⟩
  · exact ⟨exec_hunt h, exec_supervision_stopped (by simp [h]), exec_hold_stopped (by simp [h])⟩
  · rw [frameForStation_enters h]
    obtain ⟨hlink, htimer, hrestored⟩ := enterOnline_link r s
    exact ⟨hlink, htimer, hrestored, rfl, rfl, rfl, rfl, rfl, rfl, rfl, rfl, rfl, rfl⟩

/-! ### The frames that earn no reply (R175) -/

/-- While no reply to a RESTART is being sent, a frame is received. -/
theorem received_of_not_owed (h : s.depot.restartOwed = false) (f : State → State) : received f s = f s := by
  simp [received, h]

theorem frameForOther_not_search (h : ∀ r, s.depot.link ≠ .search r) : frameForOther s = s := by
  unfold frameForOther
  split
  next r hr => exact absurd hr (h r)
  next => rfl

/-! ### The envelope of a request (R179, R192) -/

/-- A payload that has not the length of its kind spells no row. -/
theorem decodeRequest_of_length {kind : Byte} {p : List Byte} (h : requestLength kind p ≠ some p.length) :
    decodeRequest kind p = .badKind kind p := by
  rw [decodeRequest, parseRequest, if_neg h]
  rfl

/-- The kinds of Table 11-3 are those from 0x40 to 0x54. -/
theorem requestLength_outside {kind : Byte} (h : kind.toNat < 0x40 ∨ 0x54 < kind.toNat) (p : List Byte) :
    requestLength kind p = none := by
  unfold requestLength
  split
  case h_22 => rfl
  all_goals omega

/-- A request that spells no row is refused by its envelope. -/
theorem exec_badKind {kind : Byte} {p : List Byte} (hs : s.hears) (hk : kind.toNat < 128)
    (h : requestLength kind p ≠ some p.length) :
    exec (.badKind kind p) s = .next ((frameForStation s).withReply kind (envelopeAnswer kind p) []) := by
  have hraw : doRaw kind p (frameForStation s) = (frameForStation s, { status := envelopeAnswer kind p, data := [] }) := by
    rw [doRaw, decodeRequest_of_length h]
    rfl
  exact exec_answered hs (congrArg Host.Outcome.next (if_neg (Nat.not_le.mpr hk))) hraw

/-- Settles O55: the frames by the link they meet, and the envelope by its kind, then by its length. -/
theorem framesWithoutReplyAndEnvelopes : Obligations.FramesWithoutReplyAndEnvelopes := by
  refine ⟨fun s r hr => ⟨?_, fun h => ?_, fun h => ?_, ?_⟩, fun kind p s hs hk => ⟨fun hkind => ?_, fun hlow hhigh hlen => ?_⟩⟩
  · exact congrArg Host.Outcome.next (received_of_not_owed hr _)
  · refine congrArg Host.Outcome.next ((received_of_not_owed hr _).trans (congrArg State.noReply (frameForOther_not_search ?_)))
    obtain h | h := h <;> simp [h]
  · have hsearch : frameForOther s = enterOnline r s := by simp only [frameForOther, h]
    obtain ⟨hlink, htimer, hrestored⟩ := enterOnline_link r s
    exact ⟨_, congrArg Host.Outcome.next ((received_of_not_owed hr _).trans (congrArg State.noReply hsearch)), hlink, rfl, htimer,
      hrestored⟩
  · exact congrArg Host.Outcome.next (received_of_not_owed hr _)
  · have hanswer : envelopeAnswer kind p = .badKind := if_pos hkind
    rw [exec_badKind hs hk (by rw [requestLength_outside hkind]; nofun), hanswer]
  · obtain ⟨n, hn, hne⟩ := hlen
    have hanswer : envelopeAnswer kind p = .badLength := by
      rw [envelopeAnswer, if_neg (by omega)]
      simp only [hn, if_pos hne]
    rw [exec_badKind hs hk (by simpa [hn] using hne), hanswer]

end

end Sys2Proof.Machine
end

section
/-! SUPPORT. The event requests (R184 to R186): what clearing and raising several kinds make of the pending set, and which kinds a
mask leaves unmasked. -/

namespace Sys2Proof.Machine

theorem mem_allEvents (e : EventKind) : e ∈ allEvents := by cases e <;> decide

/-! ### Several kinds at once -/

theorem events_clearEvent (e f : EventKind) (s : State) :
    (clearEvent e s).depot.events[f.no] = if f = e then { on := false, kiosks := [] } else s.depot.events[f.no] := by
  by_cases h : f = e
  · subst h
    simp [clearEvent]
  · have hv : e.no.val ≠ f.no.val := fun x => h (EventKind.no_inj.mp (Fin.ext x)).symm
    simp [clearEvent, h, hv]

theorem events_foldl_clearEvent (l : List EventKind) (e : EventKind) (s : State) :
    (l.foldl (fun t f => clearEvent f t) s).depot.events[e.no] =
      if e ∈ l then { on := false, kiosks := [] } else s.depot.events[e.no] := by
  induction l generalizing s with
  | nil => rfl
  | cons f l ih =>
    rw [List.foldl_cons, ih, events_clearEvent]
    by_cases hl : e ∈ l <;> by_cases hf : e = f <;> simp [hl, hf]

/-- A level kind's condition is read from the blocks, not from the depot line. -/
theorem levelHolds_raiseLevel (e f : EventKind) (s : State) : levelHolds e (raiseLevel f s) = levelHolds e s := by
  unfold raiseLevel
  split
  · cases e <;> rfl
  · rfl
theorem levelHolds_clearEvent (e f : EventKind) (s : State) : levelHolds e (clearEvent f s) = levelHolds e s := by
  cases e <;> rfl
theorem levelHolds_frameForStation (e : EventKind) (s : State) : levelHolds e (frameForStation s) = levelHolds e s := by
  unfold frameForStation
  split <;> cases e <;> rfl

/-- A level kind judged is pending if it was or if its condition holds, and no other kind changes (R184). -/
theorem raiseLevel_event (e f : EventKind) (s : State) :
    (e ≠ f → (raiseLevel f s).depot.events[e.no] = s.depot.events[e.no]) ∧
      ((raiseLevel f s).depot.events[e.no]).on = ((s.depot.events[e.no]).on || (decide (e = f) && levelHolds f s)) := by
  unfold raiseLevel
  by_cases hf : e = f
  · subst hf
    have hself : ((raise e none s).depot.events[e.no]).on = true := by rw [events_raise, if_pos rfl]
    refine ⟨fun h => absurd rfl h, ?_⟩
    split
    next hl => simp only [hself, hl, decide_true, Bool.true_and, Bool.or_true]
    next hl => simp only [Bool.eq_false_iff.mpr hl, Bool.and_false, Bool.or_false]
  · have hsame : (raise f none s).depot.events[e.no] = s.depot.events[e.no] := (events_raise f e none s).trans (if_neg hf)
    split <;> simp only [hf, hsame, decide_false, Bool.false_and, Bool.or_false, implies_true, and_self]

/-- Kinds judged one by one (R184). -/
theorem foldl_raiseLevel_event (l : List EventKind) (e : EventKind) (s : State) :
    (e ∉ l → (l.foldl (fun t f => raiseLevel f t) s).depot.events[e.no] = s.depot.events[e.no]) ∧
      ((l.foldl (fun t f => raiseLevel f t) s).depot.events[e.no]).on =
        ((s.depot.events[e.no]).on || (decide (e ∈ l) && levelHolds e s)) := by
  induction l generalizing s with
  | nil => exact ⟨fun _ => rfl, by simp⟩
  | cons f l ih =>
    obtain ⟨hother, hon⟩ := raiseLevel_event e f s
    obtain ⟨ihother, ihon⟩ := ih (raiseLevel f s)
    rw [List.foldl_cons]
    refine ⟨fun h => ?_, ?_⟩
    · obtain ⟨hf, hl⟩ := List.ne_and_not_mem_of_not_mem_cons h
      rw [ihother hl, hother hf]
    · rw [ihon, hon, levelHolds_raiseLevel]
      by_cases hf : e = f
      · subst hf
        cases levelHolds e s <;> simp
      · simp [hf]

/-! ### EVENTS-CLEAR (R186) -/

section
variable {named : List EventKind} {e : EventKind} {s : State}

/-- A kind that is not named stays as it is (R186). -/
theorem clearEvents_other (h : e ∉ named) : (clearEvents named s).depot.events[e.no] = s.depot.events[e.no] := by
  have hgone : e ∉ named.filter (fun f => (s.depot.events[f.no]).on) := fun he => h (List.mem_of_mem_filter he)
  rw [clearEvents, (foldl_raiseLevel_event _ e _).1, events_foldl_clearEvent, if_neg hgone]
  simp [h]

/-- A named kind that was pending leaves with its kiosks, unless it is a level kind (R186). -/
theorem clearEvents_edge (h : e ∈ named) (hon : (s.depot.events[e.no]).on = true) (hedge : e ∉ levelEvents) :
    (clearEvents named s).depot.events[e.no] = { on := false, kiosks := [] } := by
  have hgone : e ∈ named.filter (fun f => (s.depot.events[f.no]).on) := List.mem_filter.mpr ⟨h, hon⟩
  rw [clearEvents, (foldl_raiseLevel_event _ e _).1 fun he => hedge (List.mem_of_mem_filter he), events_foldl_clearEvent,
    if_pos hgone]

/-- A named level kind that was pending is then pending exactly when its condition holds (R186). -/
theorem clearEvents_level (h : e ∈ named) (hon : (s.depot.events[e.no]).on = true) (hlevel : e ∈ levelEvents) :
    ((clearEvents named s).depot.events[e.no]).on = levelHolds e s := by
  have hgone : e ∈ named.filter (fun f => (s.depot.events[f.no]).on) := List.mem_filter.mpr ⟨h, hon⟩
  have hholds : ∀ l : List EventKind, levelHolds e (l.foldl (fun t f => clearEvent f t) s) = levelHolds e s := fun l =>
    foldl_keeps (fun f t => clearEvent f t) (levelHolds e) (levelHolds_clearEvent e) l s
  have hagain : e ∈ levelEvents.filter (fun f => decide (f ∈ named.filter (fun f => (s.depot.events[f.no]).on)) ||
      decide (f = .floatExhausted ∧ f ∈ named)) :=
    List.mem_filter.mpr ⟨hlevel, by rw [decide_eq_true hgone, Bool.true_or]⟩
  rw [clearEvents, (foldl_raiseLevel_event _ e _).2, events_foldl_clearEvent, if_pos hgone, hholds, decide_eq_true hagain,
    Bool.true_and, Bool.false_or]

end

/-- EVENTS-CLEAR leaves the kiosks, the journal and the mask alone (R186). -/
theorem clearEvents_leaves (named : List EventKind) (s : State) :
    (clearEvents named s).kiosks = s.kiosks ∧ (clearEvents named s).journal = s.journal ∧
      (clearEvents named s).depot.unmasked = s.depot.unmasked := by
  have hraise : ∀ (f : EventKind) (t : State), (raiseLevel f t).depot.unmasked = t.depot.unmasked := fun f t =>
    (raiseLevel_raisedFrom f t).unmasked
  have hkeeps : ∀ {β : Type} (g : State → β), (∀ f t, g (raiseLevel f t) = g t) → (∀ f t, g (clearEvent f t) = g t) →
      g (clearEvents named s) = g s := fun g hl hc =>
    (foldl_keeps (fun f t => raiseLevel f t) g hl _ _).trans (foldl_keeps (fun f t => clearEvent f t) g hc _ _)
  exact ⟨hkeeps State.kiosks raiseLevel_kiosks fun _ _ => rfl, hkeeps State.journal raiseLevel_journal fun _ _ => rfl,
    hkeeps (fun t => t.depot.unmasked) hraise fun _ _ => rfl⟩

/-! ### EVENTS-MASK (R185) -/

/-- A mask leaves its kinds unmasked and no other (R185). -/
theorem maskOf_iff (l : List EventKind) (e : EventKind) : (maskOf l)[e.no] = decide (e ∈ l) := by
  have hset : ∀ (l : List EventKind) (m : Vector Bool 24),
      (l.foldl (fun m f => m.set f.no true) m)[e.no] = (m[e.no] || decide (e ∈ l)) := by
    intro l
    induction l with
    | nil => simp
    | cons f l ih =>
      intro m
      rw [List.foldl_cons, ih]
      by_cases hf : e = f
      · subst hf
        simp
      · have hv : f.no.val ≠ e.no.val := fun x => hf (EventKind.no_inj.mp (Fin.ext x)).symm
        simp [hf, hv]
  simp [maskOf, hset]

/-! ### The kinds that a request names (R186, R192) -/

/-- The kinds that an event set of kind numbers up to 23 names. -/
def namedKinds (kinds : Word) : List EventKind := allEvents.filter (fun e => kinds.getLsbD e.no.val)

theorem mem_namedKinds {kinds : Word} {e : EventKind} : e ∈ namedKinds kinds ↔ kinds.getLsbD e.no.val = true := by
  simp [namedKinds, mem_allEvents]

section
variable {kinds : Word} (s : State)

theorem eventRequests_refused (h : 2 ^ 24 ≤ kinds.toNat) :
    doEventsMask kinds s = (s, { status := .badField, data := [] }) ∧
      doEventsClear kinds s = (s, { status := .badField, data := [] }) := by
  have hset : eventSetOf kinds = none := if_neg (Nat.not_lt.mpr h)
  constructor
  · rw [doEventsMask, hset]
    rfl
  · rw [doEventsClear, hset]
    rfl

theorem eventRequests_taken (h : kinds.toNat < 2 ^ 24) :
    doEventsMask kinds s =
        ({ s with depot := { s.depot with unmasked := maskOf (namedKinds kinds) } }, { status := .ok, data := [] }) ∧
      doEventsClear kinds s =
        (clearEvents (namedKinds kinds) s, { status := .ok, data := pendingBytes (clearEvents (namedKinds kinds) s) }) := by
  have hset : eventSetOf kinds = some (namedKinds kinds) := if_pos h
  constructor
  · rw [doEventsMask, hset]
    rfl
  · rw [doEventsClear, hset]

theorem exec_eventsRead : exec .eventsRead s = .next (depotRequest 0x4D doEventsRead s) := rfl
theorem exec_eventsMask : exec (.eventsMask kinds) s = .next (depotRequest 0x4F (doEventsMask kinds) s) := rfl
theorem exec_eventsClear : exec (.eventsClear kinds) s = .next (depotRequest 0x4E (doEventsClear kinds) s) := rfl

end

/-- Settles O56: the read, then the mask and the clearing by whether the set names a kind above 23. -/
theorem eventRequests : Obligations.EventRequests := by
  intro kinds s hs v
  refine ⟨exec_answered hs (exec_eventsRead s) rfl, fun hbig => ?_, fun hset => ⟨?_, ?_⟩⟩
  · obtain ⟨hmask, hclear⟩ := eventRequests_refused v hbig
    exact ⟨exec_answered hs (exec_eventsMask s) hmask, exec_answered hs (exec_eventsClear s) hclear⟩
  · refine ⟨_, exec_answered hs (exec_eventsMask s) (eventRequests_taken v hset).1, fun e => ?_, rfl, frameForStation_kiosks s,
      frameForStation_journal s, withReply_reply _ _ _ _⟩
    rw [(withReply_depot _ _ _ _).2.1, maskOf_iff, Bool.eq_iff_iff, decide_eq_true_eq, mem_namedKinds]
  · obtain ⟨hkiosks, hjournal, hunmasked⟩ := clearEvents_leaves (namedKinds kinds) v
    refine ⟨_, exec_answered hs (exec_eventsClear s) (eventRequests_taken v hset).2, fun e hno => ?_, fun e hyes hon hedge => ?_,
      fun e hlevel hyes hon => ?_, hkiosks.trans (frameForStation_kiosks s), hjournal.trans (frameForStation_journal s),
      hunmasked.trans (frameForStation_unmasked s)⟩
    · exact clearEvents_other (mem_namedKinds.not.mpr (by simp [hno]))
    · have hgone := clearEvents_edge (mem_namedKinds.mpr hyes) hon hedge
      exact ⟨congrArg EventSlot.on hgone, congrArg EventSlot.kiosks hgone⟩
    · exact (clearEvents_level (mem_namedKinds.mpr hyes) hon hlevel).trans (levelHolds_frameForStation e s)

end Sys2Proof.Machine
end

section
/-! SUPPORT. KIOSK-READ, KIOSK-CONTROL of the service, and MODE-SET (R182, R183, R187): what is done at every kiosk in turn, the
causes of the service state, and the refusals of MODE-SET in their order. -/

namespace Sys2Proof.Machine

/-! ### Every kiosk in its turn -/

theorem mem_allKiosks (k : Kiosk) : k ∈ allKiosks := by revert k; decide
theorem nodup_allKiosks : allKiosks.Nodup := by decide

section
variable {f : Kiosk → State → State} {I : State → Prop} (hI : ∀ j t, I t → I (f j t))
include hI

/-- What each turn keeps is kept by all of them. -/
theorem atEveryKiosk_keeps {s : State} (hs : I s) : I (atEveryKiosk f s) := by
  have hfold : ∀ (l : List Kiosk) {t : State}, I t → I (l.foldl (fun t j => f j t) t) := by
    intro l
    induction l with
    | nil => exact id
    | cons j l ih => exact fun ht => ih (hI j _ ht)
  exact hfold allKiosks hs

/-- Where a turn moves its own kiosk only, each kiosk ends as its own turn makes it, in a state with what every turn keeps. -/
theorem atEveryKiosk_at {P : KioskCtx → KioskCtx → Prop} (hout : ∀ j t, (f j t).outside {j} = t.outside {j}) {k : Kiosk}
    (hat : ∀ t, I t → P (t.ctx k) ((f k t).ctx k)) {s : State} (hs : I s) : P (s.ctx k) ((atEveryKiosk f s).ctx k) := by
  have hother : ∀ {j : Kiosk} (t : State), k ≠ j → (f j t).ctx k = t.ctx k := fun {j} t hk =>
    ctx_of_outside (hout j t) (Finset.notMem_singleton.mpr hk)
  have hothers : ∀ {l : List Kiosk} (t : State), k ∉ l → (l.foldl (fun t j => f j t) t).ctx k = t.ctx k := by
    intro l
    induction l with
    | nil => exact fun _ _ => rfl
    | cons j l ih =>
      intro t hl
      obtain ⟨hj, hl⟩ := List.ne_and_not_mem_of_not_mem_cons hl
      exact (ih (f j t) hl).trans (hother t hj)
  have hturn : ∀ {l : List Kiosk} {t : State}, l.Nodup → k ∈ l → I t → P (t.ctx k) ((l.foldl (fun t j => f j t) t).ctx k) := by
    intro l
    induction l with
    | nil => intro t _ hk; cases hk
    | cons j l ih =>
      intro t hnodup hk ht
      obtain ⟨hj, hnodup⟩ := List.nodup_cons.mp hnodup
      rw [List.foldl_cons]
      by_cases hkj : k = j
      · subst hkj
        rw [hothers _ hj]
        exact hat t ht
      · have hP := ih hnodup (List.mem_of_ne_of_mem hkj hk) (hI j t ht)
        rwa [hother t hkj] at hP
  exact hturn nodup_allKiosks (mem_allKiosks k) hs

end

/-! ### KIOSK-READ (R19, R183) -/

/-- The data of a KIOSK-READ are those of the kiosk's context alone. -/
theorem kioskData_congr {k : Kiosk} {s t : State} (h : t.ctx k = s.ctx k) : kioskData k t = kioskData k s := by
  unfold kioskData State.link State.sess State.cash State.svc State.disp State.coin State.jobs State.daily
  rw [h]

theorem exec_kioskRead (kiosk : Byte) (s : State) : exec (.kioskRead kiosk) s = .next (depotRequest 0x51 (doKioskRead kiosk) s) := rfl

/-- A byte above the index range names nothing. -/
theorem finOf_none {n m : Nat} (h : n ≤ m) : finOf n m = none := dif_neg (Nat.not_lt.mpr h)

theorem doKioskRead_some {kiosk : Byte} {k : Kiosk} (h : kiosk.toNat = k.val) (s : State) :
    doKioskRead kiosk s =
      (s.updLink k (fun l => { l with doorReport := false }), { status := .ok, data := kioskData k s }) := by
  simp only [doKioskRead, kioskOf, finOf_eq h]
theorem doKioskRead_none {kiosk : Byte} (h : 16 ≤ kiosk.toNat) (s : State) :
    doKioskRead kiosk s = (s, { status := .badIndex, data := [] }) := by
  simp only [doKioskRead, kioskOf, finOf_none h, refuse]

/-! ### The service causes (R76) -/

section
variable (k : Kiosk) (f : Service → Service) (s : State)

@[simp] theorem setService_svc : (setService k f s).svc k = f (s.svc k) := by
  simp only [setService]; split <;> simp
@[simp] theorem setService_sess (j : Kiosk) : (setService k f s).sess j = s.sess j := by
  simp only [setService]; split <;> simp
@[simp] theorem setService_cash (j : Kiosk) : (setService k f s).cash j = s.cash j := by
  simp only [setService]; split <;> simp

end

section
variable {k : Kiosk} {f : Service → Service} {s : State}

/-- A change of the service state of an IDLE kiosk shows its message (R76). -/
theorem setService_message (hidle : (s.sess k).state = .idle) (hchange : (f (s.svc k)).out ≠ (s.svc k).out) :
    ((setService k f s).disp k).message = idleMessage k (s.updSvc k f) := by
  simp [setService, hidle, hchange, displayOf]

/-- While a session runs the display stays (R76). -/
theorem setService_disp_of_busy (hbusy : (s.sess k).state ≠ .idle) : (setService k f s).disp k = s.disp k := by
  simp [setService, hbusy]

end

/-! ### KIOSK-CONTROL of the service (R182) -/

section
variable {kiosk : Byte} {k : Kiosk} {s : State} (hs : s.hears) (hk : kiosk.toNat = k.val)
include hs hk

/-- A KIOSK-CONTROL of a kiosk that is UNUSED (R182). -/
theorem kioskControl_unused (hu : (s.link k).state = .unused) (refused : Kiosk → State → Bool) (act : Kiosk → State → State) :
    depotRequest 0x50 (kioskControl kiosk refused act) s = (frameForStation s).withReply 0x50 .notFound [] := by
  have h : kioskControl kiosk refused act (frameForStation s) = (frameForStation s, { status := .notFound, data := [] }) := by
    simp [kioskControl, kioskOf, finOf_eq hk, hu, refuse]
  rw [depotRequest_heard hs, h]

/-- A change of the service causes of a configured kiosk is taken, and the answer carries the service state after it (R182). -/
theorem kioskControl_service (hu : (s.link k).state ≠ .unused) (f : Service → Service) :
    depotRequest 0x50 (kioskControl kiosk never (fun k => setService k f)) s =
      (setService k f (frameForStation s)).withReply 0x50 .ok
        [if (f (s.svc k)).out then 1#8 else 0#8, if (s.cash k).inlet.state = .opened then 0#8 else 1#8] := by
  have h : kioskControl kiosk never (fun k => setService k f) (frameForStation s) = (setService k f (frameForStation s),
      { status := .ok, data := flagByte (f (s.svc k)).out ++ byte1 (s.cash k).inlet.state.code }) := by
    simp [kioskControl, kioskOf, finOf_eq hk, hu, never]
  rw [depotRequest_heard hs, h, controlBytes]

end

/-- Settles O57: the read by the kiosk's index, then the two controls by whether the kiosk is configured. -/
theorem kioskReadAndServiceControl : Obligations.KioskReadAndServiceControl := by
  refine ⟨fun kiosk s hs => ⟨fun k hk => ?_, fun hbig => ?_⟩, fun kiosk k s hs hk => ⟨fun hu => ⟨?_, ?_⟩, fun hu => ⟨?_, ?_⟩⟩⟩
  · rw [← kioskData_congr (frameForStation_ctx s k)]
    exact exec_answered hs (exec_kioskRead kiosk s) (doKioskRead_some hk _)
  · exact exec_answered hs (exec_kioskRead kiosk s) (doKioskRead_none hbig _)
  · exact congrArg Host.Outcome.next (kioskControl_unused hs hk hu never _)
  · exact congrArg Host.Outcome.next (kioskControl_unused hs hk hu never _)
  · refine ⟨_, congrArg Host.Outcome.next (kioskControl_service hs hk hu _), by simp, ?_, fun hidle hout hserv hmode => ?_,
      by simp, by simp⟩
    · simpa [Service.out] using withReply_reply ..
    · have hserver : (s.svc k).server = true := by simpa [Service.out, hserv] using hout
      have hmessage := setService_message (k := k) (s := frameForStation s) (f := fun v => { v with server := false })
        (by simpa using hidle) (by simp [Service.out, hserv, hserver])
      simpa [idleMessage, Service.out, hmode, hserv] using hmessage
  · refine ⟨_, congrArg Host.Outcome.next (kioskControl_service hs hk hu _), by simp, ?_, fun hidle hout hmode => ?_,
      fun hbusy => ?_, by simp, by simp⟩
    · simpa [Service.out] using withReply_reply ..
    · have hmessage := setService_message (k := k) (s := frameForStation s) (f := fun v => { v with server := true })
        (by simpa using hidle) (by simpa [Service.out] using hout)
      simpa [idleMessage, Service.out, hmode] using hmessage
    · simpa using setService_disp_of_busy (k := k) (s := frameForStation s) (by simpa using hbusy)

/-! ### A change of the part mode (R187) -/

/-- The IDLE message of a kiosk with the service causes `v` in the part mode `m` (Table 5-3). -/
def PartMode.idleMessage (m : PartMode) (v : Service) : Message :=
  if m ≠ .selling then .closed else if v.out then .outOfService else .ready

/-- What a change to the part mode `m` makes of a kiosk `c`: its session stays, and an IDLE one shows its message. -/
structure ShownIn (m : PartMode) (c d : KioskCtx) : Prop where
  sess : d.sess = c.sess
  message : c.sess.state = .idle → d.disp.message = m.idleMessage c.svc

@[simp] theorem modeShownAt_depot (k : Kiosk) (s : State) : (modeShownAt k s).depot = s.depot := by
  unfold modeShownAt; split <;> simp

theorem modeShownAt_shownIn {m : PartMode} {s : State} (h : s.depot.mode = m) (k : Kiosk) :
    ShownIn m (s.ctx k) ((modeShownAt k s).ctx k) := by
  subst h
  unfold modeShownAt
  split
  next =>
    refine ⟨showMessage_sess k _ s k, fun _ => ?_⟩
    show ((showMessage k _ s).disp k).message = _
    rw [showMessage_disp_same]
    rfl
  next hbusy => exact ⟨offerShow_sess k s k, fun hidle => absurd hidle hbusy⟩

theorem changeMode_eq (m : PartMode) (s : State) :
    changeMode m s = atEveryKiosk modeShownAt { s with depot := { s.depot with mode := m } } := rfl

theorem changeMode_shownIn (m : PartMode) (s : State) (k : Kiosk) : ShownIn m (s.ctx k) ((changeMode m s).ctx k) := by
  rw [changeMode_eq]
  exact atEveryKiosk_at (I := fun t => t.depot.mode = m) (fun j t ht => (congrArg Depot.mode (modeShownAt_depot j t)).trans ht)
    (fun _ _ => modeShownAt_outside (Finset.mem_singleton_self _) _) (fun _ ht => modeShownAt_shownIn ht k)
    (s := { s with depot := { s.depot with mode := m } }) rfl

@[simp] theorem changeMode_mode (m : PartMode) (s : State) : (changeMode m s).depot.mode = m := by
  rw [changeMode_eq]
  exact atEveryKiosk_keeps (I := fun t => t.depot.mode = m) (fun j t ht => (congrArg Depot.mode (modeShownAt_depot j t)).trans ht) rfl

/-! ### MODE-SET judged (R187) -/

/-- A coin type is taken: some entry of the coin table has use ACCEPT. -/
def State.acceptsCoins (s : State) : Prop := ∃ (i : CoinType) (e : CoinEntry), s.coins[i] = some e ∧ e.use = .accept

/-- A configured kiosk without a tube in use (Table 11-9). -/
def State.lacksTube (s : State) (k : Kiosk) : Prop :=
  (s.link k).state ≠ .unused ∧ ∀ n : TubeNo, ((s.cash k).tubes[n]).coinType = none

section
variable {s : State}

theorem lacksTubes_iff {k : Kiosk} : lacksTubes s k = true ↔ s.lacksTube k := by
  simp [lacksTubes, State.lacksTube, mem_allTubes]

/-- The coin table's check of MODE-SET passes where no coin type is taken (R187). -/
theorem coinTable_unused_iff {p : Option CoinEntry → Bool} (hp : ∀ x, p x = true ↔ ∀ e, x = some e → e.use ≠ .accept) :
    s.coins.toList.all p = true ↔ ¬ s.acceptsCoins := by
  simp only [List.all_eq_true, Vector.mem_toList_iff, hp]
  constructor
  · rintro h ⟨i, e, he, huse⟩
    exact h s.coins[i] (Vector.getElem_mem i.isLt) e he huse
  · intro h x hx e he huse
    obtain ⟨i, hi, rfl⟩ := Vector.mem_iff_getElem.mp hx
    exact h ⟨⟨i, hi⟩, e, he, huse⟩

/-- In an ascending list the first of a property is the lowest kiosk that has it. -/
theorem find_lowest {p : Kiosk → Bool} {k : Kiosk} (hk : p k = true) (hlow : ∀ j, j < k → p j = false) {l : List Kiosk}
    (hsorted : l.Pairwise (· < ·)) (hmem : k ∈ l) : l.find? p = some k := by
  induction l with
  | nil => cases hmem
  | cons j l ih =>
    obtain ⟨hj, hsorted⟩ := List.pairwise_cons.mp hsorted
    obtain rfl | hmem := List.mem_cons.mp hmem
    · exact List.find?_cons_of_pos hk
    · rw [List.find?_cons_of_neg (by rw [hlow j (hj k hmem)]; decide)]
      exact ih hsorted hmem

theorem find_allKiosks {p : Kiosk → Bool} {k : Kiosk} (hk : p k = true) (hlow : ∀ j, j < k → p j = false) :
    allKiosks.find? p = some k := find_lowest hk hlow (by decide) (mem_allKiosks k)

theorem allIdle_iff : allIdle s = true ↔ ∀ k, (s.sess k).state = .idle := by
  simp [allIdle, mem_allKiosks]

theorem doModeSelling_selling (h : s.depot.mode = .selling) : doModeSelling s = (s, { status := .ok, data := [] }) := by
  rw [doModeSelling, if_pos h]
  rfl
theorem doModeSelling_unset (hm : s.depot.mode ≠ .selling) (h : s.clock.state = .invalid) :
    doModeSelling s = (s, { status := .clockUnset, data := [] }) := by
  rw [doModeSelling, if_neg hm, if_pos h]
  rfl

section
variable (hm : s.depot.mode ≠ .selling) (hc : s.clock.state = .valid)
include hm hc

theorem doModeSelling_noBank (hb : s.tariff.active = none) :
    doModeSelling s = (s, { status := .tablesIncomplete, data := [7, 0] }) := by
  rw [doModeSelling, if_neg hm, if_neg (by simp [hc]), if_pos hb]
  rfl

section
variable (hb : s.tariff.active.isSome = true)
include hb

theorem doModeSelling_noCoin (ha : ¬ s.acceptsCoins) :
    doModeSelling s = (s, { status := .tablesIncomplete, data := [3, 0] }) := by
  rw [doModeSelling, if_neg hm, if_neg (by simp [hc]), if_neg (Option.isSome_iff_ne_none.mp hb)]
  split
  next => rfl
  next h => exact (h ((coinTable_unused_iff (fun x => by cases x <;> simp)).mpr ha)).elim

section
variable (ha : s.acceptsCoins)
include ha

/-- With a VALID clock, an ACTIVE bank and a coin taken, the tubes decide (R187). -/
theorem doModeSelling_tubes :
    doModeSelling s = match allKiosks.find? (lacksTubes s) with
      | some k => incomplete 4 k.val s
      | none => taken (changeMode .selling) s := by
  rw [doModeSelling, if_neg hm, if_neg (by simp [hc]), if_neg (Option.isSome_iff_ne_none.mp hb)]
  split
  next h => exact ((coinTable_unused_iff (fun x => by cases x <;> simp)).mp h ha).elim
  next => rfl

theorem doModeSelling_noTube {k : Kiosk} (hk : s.lacksTube k) (hlow : ∀ j, j < k → ¬ s.lacksTube j) :
    doModeSelling s = (s, { status := .tablesIncomplete, data := [4, BitVec.ofNat 8 k.val] }) := by
  have hfirst : allKiosks.find? (lacksTubes s) = some k :=
    find_allKiosks (lacksTubes_iff.mpr hk) fun j hj => Bool.eq_false_iff.mpr fun h => hlow j hj (lacksTubes_iff.mp h)
  rw [doModeSelling_tubes hm hc hb ha, hfirst]
  simp [incomplete, byte1, beBytes_one]

theorem doModeSelling_taken (h : ∀ k, ¬ s.lacksTube k) :
    doModeSelling s = (changeMode .selling s, { status := .ok, data := [] }) := by
  have hnone : allKiosks.find? (lacksTubes s) = none := List.find?_eq_none.mpr fun k _ hk => h k (lacksTubes_iff.mp hk)
  rw [doModeSelling_tubes hm hc hb ha, hnone]
  rfl

end
end
end

theorem doModeLoading_taken (hm : s.depot.mode ≠ .loading) (h : ∀ k, (s.sess k).state = .idle) :
    doModeLoading s = (changeMode .loading s, { status := .ok, data := [] }) := by
  rw [doModeLoading, if_neg hm, if_neg (by rw [allIdle_iff.mpr h]; decide)]
  rfl
theorem doModeLoading_busy (hm : s.depot.mode ≠ .loading) (h : ∃ k, (s.sess k).state ≠ .idle) :
    doModeLoading s = (s, { status := .busy, data := [] }) := by
  obtain ⟨k, hk⟩ := h
  rw [doModeLoading, if_neg hm, if_pos (Bool.eq_false_iff.mpr fun hall => hk (allIdle_iff.mp hall k))]
  rfl

end

theorem doModeLoading_loading {s : State} (hm : s.depot.mode = .loading) : doModeLoading s = (s, { status := .ok, data := [] }) := by
  rw [doModeLoading, if_pos hm]
  rfl

/-- SUSPENDED is taken from SELLING alone (R187). -/
theorem doModeSuspended_eq (s : State) : doModeSuspended s =
    match s.depot.mode with
    | .loading => (s, { status := .wrongMode, data := [] })
    | .selling => (changeMode .suspended s, { status := .ok, data := [] })
    | .suspended => (s, { status := .ok, data := [] }) := by
  cases h : s.depot.mode <;> simp [doModeSuspended, h, taken, refuse]

theorem exec_modeSetLoading (s : State) : exec .modeSetLoading s = .next (depotRequest 0x53 doModeLoading s) := rfl
theorem exec_modeSetSelling (s : State) : exec .modeSetSelling s = .next (depotRequest 0x53 doModeSelling s) := rfl
theorem exec_modeSetSuspended (s : State) : exec .modeSetSuspended s = .next (depotRequest 0x53 doModeSuspended s) := rfl

/-- A change of mode that is taken, as the server sees it: the mode, the sessions, and what each IDLE kiosk shows (R187). -/
theorem exec_modeSet_taken {c : Instr} {h : Handler} {s : State} (hs : s.hears) (hc : exec c s = .next (depotRequest 0x53 h s))
    {m : PartMode} (hh : h (frameForStation s) = (changeMode m (frameForStation s), { status := .ok, data := [] })) :
    ∃ t, exec c s = .next t ∧ t.depot.mode = m ∧
      ∀ k, t.sess k = s.sess k ∧ ((s.sess k).state = .idle → (t.disp k).message = m.idleMessage (s.svc k)) := by
  refine ⟨_, exec_answered hs hc hh, ?_, fun k => ?_⟩
  · rw [(withReply_depot _ _ _ _).2.2.1, changeMode_mode]
  · have hk := changeMode_shownIn m (frameForStation s) k
    rw [frameForStation_ctx] at hk
    rw [withReply_sess, withReply_disp]
    generalize changeMode m (frameForStation s) = t at hk
    exact ⟨hk.sess, hk.message⟩

/-- Settles O58: each mode in turn, its refusals in the order of R187. -/
theorem modeSetJudged : Obligations.ModeSetJudged := by
  intro s hs v accepts lacks
  have hmode : v.depot.mode = s.depot.mode := frameForStation_mode s
  have hlacks : ∀ k, v.lacksTube k ↔ lacks k := fun k => by rw [State.lacksTube, frameForStation_link, frameForStation_cash]
  have haccepts : v.acceptsCoins ↔ accepts := by rw [State.acceptsCoins, frameForStation_coins]
  have hclock : v.clock = s.clock := frameForStation_clock s
  have htariff : v.tariff = s.tariff := frameForStation_tariff s
  have hsess : ∀ k, v.sess k = s.sess k := frameForStation_sess s
  refine ⟨fun hm => ⟨?_, ?_⟩, fun hm => ?_, fun hm => ⟨?_, ?_⟩, fun hm hc => ?_, fun hm hc => ⟨fun hb => ?_, fun hb => ⟨fun ha => ?_,
    fun ha => ⟨fun k hk hlow => ?_, fun hnone => ?_⟩⟩⟩, fun hm hbusy => ?_, fun hm hidle => ?_⟩
  · exact exec_answered hs (exec_modeSetLoading s) (doModeLoading_loading (hmode.trans hm))
  · exact exec_answered hs (exec_modeSetSuspended s) (by rw [doModeSuspended_eq, hmode.trans hm])
  · exact exec_answered hs (exec_modeSetSuspended s) (by rw [doModeSuspended_eq, hmode.trans hm])
  · exact exec_answered hs (exec_modeSetSelling s) (doModeSelling_selling (hmode.trans hm))
  · obtain ⟨t, ht, hset, hk⟩ := exec_modeSet_taken hs (exec_modeSetSuspended s) (m := .suspended)
      (by rw [doModeSuspended_eq, hmode.trans hm])
    exact ⟨t, ht, hset, hk⟩
  · exact exec_answered hs (exec_modeSetSelling s) (doModeSelling_unset (hmode ▸ hm) (hclock ▸ hc))
  · exact exec_answered hs (exec_modeSetSelling s) (doModeSelling_noBank (hmode ▸ hm) (hclock ▸ hc) (htariff ▸ hb))
  · exact exec_answered hs (exec_modeSetSelling s)
      (doModeSelling_noCoin (hmode ▸ hm) (hclock ▸ hc) (htariff ▸ hb) (haccepts.not.mpr ha))
  · exact exec_answered hs (exec_modeSetSelling s) (doModeSelling_noTube (hmode ▸ hm) (hclock ▸ hc) (htariff ▸ hb)
      (haccepts.mpr ha) ((hlacks k).mpr hk) fun j hj => (hlacks j).not.mpr (hlow j hj))
  · obtain ⟨t, ht, hset, hk⟩ := exec_modeSet_taken hs (exec_modeSetSelling s) (m := .selling)
      (doModeSelling_taken (hmode ▸ hm) (hclock ▸ hc) (htariff ▸ hb) (haccepts.mpr ha) fun k => (hlacks k).not.mpr (hnone k))
    exact ⟨t, ht, hset, hk⟩
  · exact exec_answered hs (exec_modeSetLoading s)
      (doModeLoading_busy (hmode ▸ hm) (hbusy.imp fun k hk => (hsess k).symm ▸ hk))
  · obtain ⟨t, ht, hset, hk⟩ := exec_modeSet_taken hs (exec_modeSetLoading s) (m := .loading)
      (doModeLoading_taken (hmode ▸ hm) fun k => (congrArg Session.state (hsess k)).trans (hidle k))
    exact ⟨t, ht, hset, fun k => ⟨(hk k).1, (hk k).2 (hidle k)⟩⟩

end Sys2Proof.Machine
end

section
/-! SUPPORT. What the doings of a warm restart leave (R188), operation by operation in the order of the blocks: first those that come
between its beginning and its end, then those of its end. -/

namespace Sys2Proof.Machine

/-! ### Between the beginning and the end of a restart -/

/-- No kiosk is PRESENT, as at every moment of a warm restart but its very beginning (R5). -/
def State.quiet (s : State) : Prop := ∀ k, (s.link k).state ≠ .present

/-- From `c` to `d` a kiosk keeps what no settling of a restart moves, and a last-request record that is gone stays so. -/
structure AtRest (c d : KioskCtx) : Prop where
  link : d.link = c.link
  coin : d.coin = c.coin
  svc : d.svc = c.svc
  lastRequest : c.card.lastRequest = none → d.card.lastRequest = none

theorem AtRest.refl (c : KioskCtx) : AtRest c c := ⟨rfl, rfl, rfl, id⟩
theorem AtRest.trans {c d e : KioskCtx} (h : AtRest c d) (g : AtRest d e) : AtRest c e :=
  ⟨g.link.trans h.link, g.coin.trans h.coin, g.svc.trans h.svc, fun hn => g.lastRequest (h.lastRequest hn)⟩

/-- What every doing of a restart leaves of the shared fields: the loops and the float established stand, no request is listed
anew, and on the depot line kinds are raised at most. -/
structure Continues (s t : State) : Prop where
  depot : RaisedFrom s t
  loop : ∀ l, t.loop l = s.loop l
  listed : s.cards.authList = [] → t.cards.authList = []
  floatSet : t.cards.floatSet = s.cards.floatSet

theorem Continues.trans {s t u : State} (h : Continues s t) (g : Continues t u) : Continues s u :=
  ⟨h.depot.trans g.depot, fun l => (g.loop l).trans (h.loop l), fun hs => g.listed (h.listed hs), g.floatSet.trans h.floatSet⟩

/-- From `s` to `t` sessions have been settled within a restart: the tables, the banks and the clock stand, records of the clock as
it stands follow those kept, and the kiosks are at rest. -/
structure Settling (s t : State) : Prop where
  continues : Continues s t
  outside : t.outside .univ = s.outside .univ
  records : ∃ settled, t.journal.records = s.journal.records ++ settled ∧
    ∀ r ∈ settled, r.closeTime = s.clock.dateTime ∧ r.serviceDay = s.clock.heldDay
  rest : s.quiet → ∀ k, AtRest (s.ctx k) (t.ctx k)

/-- A doing that appends no record. -/
theorem Settling.of_journal {s t : State} (hc : Continues s t) (ho : t.outside .univ = s.outside .univ) (hj : t.journal = s.journal)
    (hr : s.quiet → ∀ k, AtRest (s.ctx k) (t.ctx k)) : Settling s t :=
  ⟨hc, ho, ⟨[], by rw [hj, List.append_nil], fun _ h => absurd h List.not_mem_nil⟩, hr⟩

theorem Settling.refl (s : State) : Settling s s :=
  .of_journal ⟨.of_depot rfl, fun _ => rfl, id, rfl⟩ rfl rfl fun _ _ => .refl _

theorem Settling.quiet {s t : State} (h : Settling s t) (hq : s.quiet) : t.quiet := fun k => by
  have hlink : t.link k = s.link k := (h.rest hq k).link
  rw [hlink]
  exact hq k

theorem Settling.trans {s t u : State} (h : Settling s t) (g : Settling t u) : Settling s u := by
  obtain ⟨first, hfirst, hstamped⟩ := h.records
  obtain ⟨second, hsecond, gstamped⟩ := g.records
  rw [clock_of_univ h.outside] at gstamped
  refine ⟨h.continues.trans g.continues, g.outside.trans h.outside, ⟨first ++ second, ?_, fun r hr => ?_⟩,
    fun hq k => (h.rest hq k).trans (g.rest (h.quiet hq) k)⟩
  · rw [hsecond, hfirst, List.append_assoc]
  · exact (List.mem_append.mp hr).elim (hstamped r) (gstamped r)

theorem atEveryKiosk_settling {f : Kiosk → State → State} (h : ∀ k t, Settling t (f k t)) (s : State) :
    Settling s (atEveryKiosk f s) := foldl_related .refl .trans f h allKiosks s

/-! ### Changes of one kiosk -/

theorem upd_continues (k : Kiosk) (f : KioskCtx → KioskCtx) (s : State) : Continues s (s.upd k f) :=
  ⟨.of_depot rfl, fun l => State.loop_upd s k f l, id, rfl⟩

section
variable (k : Kiosk) (s : State)

theorem upd_settling {f : KioskCtx → KioskCtx} (hf : ∀ c, AtRest c (f c)) : Settling s (s.upd k f) := by
  refine .of_journal (upd_continues k f s) (upd_outside (Finset.mem_univ k) s f) rfl fun _ j => ?_
  rw [State.ctx_upd]
  split
  · exact hf _
  · exact .refl _

theorem updCash_settling (f : KCash → KCash) : Settling s (s.updCash k f) := upd_settling k s fun _ => ⟨rfl, rfl, rfl, id⟩
theorem updSess_settling (f : Session → Session) : Settling s (s.updSess k f) := upd_settling k s fun _ => ⟨rfl, rfl, rfl, id⟩
theorem setDisp_settling (d : Display) : Settling s (s.setDisp k d) := upd_settling k s fun _ => ⟨rfl, rfl, rfl, id⟩
theorem setJobs_settling (l : List Job) : Settling s (s.setJobs k l) := upd_settling k s fun _ => ⟨rfl, rfl, rfl, id⟩
theorem setDaily_settling (d : Daily) : Settling s (s.setDaily k d) := upd_settling k s fun _ => ⟨rfl, rfl, rfl, id⟩
theorem updCard_settling {f : KCard → KCard} (hf : ∀ c, c.lastRequest = none → (f c).lastRequest = none) :
    Settling s (s.updCard k f) := upd_settling k s fun c => ⟨rfl, rfl, rfl, hf c.card⟩

theorem raise_settling (e : EventKind) (n : Option Kiosk) : Settling s (raise e n s) :=
  .of_journal ⟨raise_raisedFrom e n s, fun l => loop_raise e n s l, id, rfl⟩ rfl rfl fun _ _ => .refl _
theorem raiseIf_settling (c : Prop) [Decidable c] (e : EventKind) (n : Option Kiosk) : Settling s (if c then raise e n s else s) := by
  split
  · exact raise_settling s e n
  · exact .refl s

end

/-! ### The indicator of a kiosk that is not PRESENT (R12, R107) -/

/-- An offer to a kiosk that is not PRESENT leaves its link part (R12). -/
theorem offer_link_of_absent {k : Kiosk} {s : State} (h : (s.link k).state ≠ .present) (c : Cmd) (j : Kiosk) :
    (offer k c s).1.link j = s.link j := by
  by_cases hj : j = k
  · subst hj
    rw [offer_link_same, KLink.offer_absent h]
  · exact offer_link_ne k c s hj

theorem recompute_link_of_quiet {s : State} (h : s.quiet) (k j : Kiosk) : (recompute k s).link j = s.link j := by
  unfold recompute putDisplay
  split
  · rfl
  · rw [showDisplay, offerShow, offer_link_of_absent (by rw [State.link_setDisp]; exact h k), State.link_setDisp]

theorem recompute_continues (k : Kiosk) (s : State) : Continues s (recompute k s) :=
  ⟨.of_depot (recompute_depot k s), fun l => recompute_loop k s l, fun h => by rwa [recompute_cards], by rw [recompute_cards]⟩

theorem recompute_settling (k : Kiosk) (s : State) : Settling s (recompute k s) :=
  .of_journal (recompute_continues k s) (recompute_outside (Finset.mem_univ k) s) (recompute_journal k s) fun hq j =>
    ⟨recompute_link_of_quiet hq k j, recompute_coin k s j, recompute_svc k s j,
      fun h => (congrArg KCard.lastRequest (recompute_kcard k s j)).trans h⟩

/-! ### The Cash Unit (R37, R45, R47, R49) -/

section
variable (k : Kiosk) (s : State)

theorem tubeNote_settling (n : TubeNo) (old : Tube) : Settling s (tubeNote k n old s) :=
  (updCash_settling k s _).trans
    ((raiseIf_settling _ _ _ _).trans ((raiseIf_settling _ _ _ _).trans (recompute_settling k _)))

theorem noteTube_settling (old new : Vector Tube 6) (n : TubeNo) : Settling s (noteTube k old new s n) := by
  unfold noteTube
  split
  · exact .refl s
  · exact tubeNote_settling k s n _

theorem changeTubes_settling (f : TubeNo → Tube → Tube) : Settling s (changeTubes k f s) := by
  rw [changeTubes_eq_foldl]
  exact (updCash_settling k s _).trans
    (foldl_related .refl .trans (fun n t => noteTube k _ _ t n) (fun n t => noteTube_settling k t _ _ n) allTubes _)

theorem abandonOrder_settling : Settling s (abandonOrder k s) := by
  unfold abandonOrder
  split
  · exact .refl s
  · exact (changeTubes_settling k s _).trans (updCash_settling k _ _)

theorem setEscrow_settling (l : List EscrowEntry) : Settling s (setEscrow k l s) := by
  simp only [setEscrow]
  split
  · exact updCash_settling k s _
  · exact (updCash_settling k s _).trans (updSess_settling k _ _)

theorem escrowRestart_settling : Settling s (escrowRestart k s) :=
  ((setEscrow_settling k s _).trans (updCash_settling k _ _)).trans (updCash_settling k _ _)

theorem inletRestart_settling : Settling s (inletRestart k s) := by
  rw [inletRestart, State.updInlet]
  exact updCash_settling k s _

/-! ### The Card Authoriser (R132, R137, R139) -/

theorem setIssued_settling (w : Option CardWrite) : Settling s (setIssued k w s) := updCard_settling k s fun _ => id

/-- A request that is concluded or withdrawn is listed no more. -/
theorem withdraw_settling : Settling s (withdraw k s) := by
  unfold withdraw
  split
  · have hunlist : Settling s (unlist k s) :=
      .of_journal ⟨.of_depot rfl, fun l => by cases l <;> rfl, fun h => by simp [unlist, h], rfl⟩
        (unlist_outside (Finset.mem_univ k) s) rfl fun _ _ => .refl _
    exact hunlist.trans (updCard_settling k _ fun c h => by simp [h])
  · exact .refl s

end

theorem raiseLevel_settling (e : EventKind) (s : State) : Settling s (raiseLevel e s) := by
  unfold raiseLevel
  split
  · exact raise_settling s e none
  · exact .refl s

/-- The float and its table changed, but for the float established. -/
theorem cards_settling {s : State} {c : Cards} (hlist : c.authList = s.cards.authList) (hstop : c.stopList = s.cards.stopList)
    (hfloat : c.floatSet = s.cards.floatSet) : Settling s { s with cards := c } :=
  .of_journal ⟨.of_depot rfl, fun l => by cases l <;> rfl, fun h => hlist.trans h, hfloat⟩
    (by simp only [State.outside, hlist, hstop]; rfl) rfl fun _ _ => .refl _

theorem judgeFloat_settling (s : State) : Settling s (judgeFloat s) := by
  have hlow : Settling s { s with cards := { s.cards with floatLow := decide (s.cards.floatRemaining * 10 < s.cards.floatSet) } } :=
    cards_settling rfl rfl rfl
  simp only [judgeFloat]
  exact hlow.trans ((raiseIf_settling _ _ _ _).trans (raiseLevel_settling _ _))

theorem regrant_settling {s : State} {c : Cards} (hlist : c.authList = s.cards.authList) (hstop : c.stopList = s.cards.stopList)
    (hfloat : c.floatSet = s.cards.floatSet) (k : Kiosk) (g : Option Grant) : Settling s (s.regrant k c g) := by
  rw [State.regrant]
  exact ((cards_settling hlist hstop hfloat).trans (updCard_settling k _ (f := fun x => { x with grant := g }) fun _ => id)).trans
    (judgeFloat_settling _)

section
variable (k : Kiosk) (s : State)

theorem deliverGrant_settling : Settling s (deliverGrant k s) := by
  cases h : (s.kcard k).grant with
  | none => rw [deliverGrant_none h]; exact .refl s
  | some g => rw [deliverGrant_some h]; exact regrant_settling (c := s.cards.afterDelivery g) rfl rfl rfl k none
theorem restoreGrant_settling : Settling s (restoreGrant k s) := by
  cases h : (s.kcard k).grant with
  | none => rw [restoreGrant_none h]; exact .refl s
  | some g => rw [restoreGrant_some h]; exact regrant_settling (c := s.cards.afterRestoration g) rfl rfl rfl k none

theorem authoriserClose_settling (o : SessOutcome) (d : Bool) : Settling s (authoriserClose k o d s) := by
  have hgrant : Settling s (if d then deliverGrant k s else restoreGrant k s) := by
    split
    · exact deliverGrant_settling k s
    · exact restoreGrant_settling k s
  simp only [authoriserClose]
  split
  · exact .refl s
  · exact hgrant.trans ((raiseIf_settling _ _ _ _).trans (setIssued_settling k _ none))

/-! ### A stranded session (R99, R117) -/

theorem requestReceipt_settling (o : SessOutcome) : Settling s (requestReceipt k o s).1 := by
  obtain h | ⟨jobs, h⟩ := requestReceipt_cases k o s <;> rw [h]
  · exact .refl s
  · exact setJobs_settling k s jobs

/-- A record of the clock as it stands is appended (R159, R166). -/
theorem append_settling {r : Record} (hr : r.closeTime = s.clock.dateTime ∧ r.serviceDay = s.clock.heldDay) :
    Settling s (append k r s) where
  continues := ⟨.of_depot rfl, fun l => by cases l <;> rfl, id, rfl⟩
  outside := append_outside (Finset.mem_univ k) r s
  records := ⟨[r], rfl, fun x hx => List.mem_singleton.mp hx ▸ hr⟩
  rest := fun hq => by
    unfold append
    exact (setDaily_settling k _ _).rest hq

theorem settleRecord_settling (o : SessOutcome) (d : Bool) : Settling s (settleRecord k o d s) :=
  ((authoriserClose_settling k s o d).trans (requestReceipt_settling k _ o)).trans (append_settling k _ ⟨rfl, rfl⟩)

theorem strandSession_settling : Settling s (strandSession k s) := by
  have horder : Settling s (if (s.sess k).payoutOut then abandonOrder k (withdraw k s) else withdraw k s) := by
    split
    · exact (withdraw_settling k s).trans (abandonOrder_settling k _)
    · exact withdraw_settling k s
  simp only [strandSession]
  exact horder.trans ((updSess_settling k _ Session.strandedFigures).trans
    ((raiseIf_settling _ _ _ _).trans (settleRecord_settling k _ _ _)))

theorem sessionRestart_settling : Settling s (sessionRestart k s) := by
  have hstrand : Settling s (match (s.sess k).state with | .idle => s | .selecting => s | _ => strandSession k s) := by
    split
    · exact .refl s
    · exact .refl s
    · exact strandSession_settling k s
  exact hstrand.trans (updSess_settling k _ fun x => Session.start x.serial)

end

end Sys2Proof.Machine
end

section
/-! SUPPORT. The warm restart (R188): the kiosks as its beginning, the settling of their sessions and its end leave them, and the clock
that has gone on through it. -/

namespace Sys2Proof.Machine

/-! ### A Cash Unit at a restart (R37, R45, R49) -/

/-- What a restart makes of a Cash Unit `c`: what an escrow command or a held request carried heads the list, the payout order is
gone, and the tubes keep their contents. -/
structure CashRestarted (c d : KCash) : Prop where
  escrow : d.escrow = c.carried ++ c.escrow
  escrowCmd : d.escrowCmd = none
  held : d.held = []
  strandedMark : d.strandedMark = decide (d.escrow ≠ [])
  order : d.order = none
  cashboxCount : d.cashboxCount = c.cashboxCount
  mode : d.inlet.mode = c.inlet.mode
  tubes : ∀ n : TubeNo, (d.tubes[n]).coinType = (c.tubes[n]).coinType ∧ (d.tubes[n]).capacity = (c.tubes[n]).capacity ∧
    (d.tubes[n]).count = (c.tubes[n]).count ∧ (d.tubes[n]).lowMark = (c.tubes[n]).lowMark

@[simp] theorem noteChange_lowMark (old new : Tube) : (noteChange old new).lowMark = new.lowMark := by
  unfold noteChange Tube.judged; split <;> rfl

@[simp] theorem setEscrow_cash (k : Kiosk) (l : List EscrowEntry) (s : State) :
    (setEscrow k l s).cash k = { s.cash k with escrow := l } := by
  simp only [setEscrow]
  split <;> simp
theorem setEscrow_serial (k : Kiosk) (l : List EscrowEntry) (s : State) :
    ((setEscrow k l s).sess k).serial = (s.sess k).serial := by
  simp only [setEscrow]
  split <;> simp

theorem escrowRestart_cash (k : Kiosk) (s : State) :
    (escrowRestart k s).cash k =
      { s.cash k with escrow := (s.cash k).carried ++ (s.cash k).escrow, escrowCmd := none, held := [],
                      strandedMark := decide ((s.cash k).carried ++ (s.cash k).escrow ≠ []) } := by
  simp [escrowRestart, restoreEscrow]
theorem escrowRestart_serial (k : Kiosk) (s : State) : ((escrowRestart k s).sess k).serial = (s.sess k).serial := by
  simp [escrowRestart, restoreEscrow, setEscrow_serial]

/-- A kiosk without a payout order has none to abandon. -/
theorem abandonOrder_none {k : Kiosk} {s : State} (h : (s.cash k).order = none) : abandonOrder k s = s := by
  simp only [abandonOrder, h]

/-- An order abandoned changes tubes in their state and low flag alone (R45). -/
theorem abandonOrder_cash (k : Kiosk) (s : State) :
    ∃ v : Vector Tube 6, (abandonOrder k s).cash k = { s.cash k with tubes := v, order := none } ∧
      ∀ n : TubeNo, (v[n]).coinType = ((s.cash k).tubes[n]).coinType ∧ (v[n]).capacity = ((s.cash k).tubes[n]).capacity ∧
        (v[n]).count = ((s.cash k).tubes[n]).count ∧ (v[n]).lowMark = ((s.cash k).tubes[n]).lowMark := by
  cases ho : (s.cash k).order with
  | none => exact ⟨(s.cash k).tubes, by rw [abandonOrder_none ho, ← ho], fun _ => ⟨rfl, rfl, rfl, rfl⟩⟩
  | some o =>
    obtain ⟨v, hc, hv⟩ := changeTubes_cash k (fun n t =>
      if o.entries.any (fun e => decide (e.1 = n)) then { t with state := .suspect } else t) s
    refine ⟨v, by rw [abandonOrder_some ho, State.cash_updCash_same, hc], fun n => ?_⟩
    rw [hv, noteChange_coinType, noteChange_capacity, noteChange_count, noteChange_lowMark]
    split <;> exact ⟨rfl, rfl, rfl, rfl⟩

theorem cash_restarted (k : Kiosk) (s : State) :
    CashRestarted (s.cash k) ((abandonOrder k (escrowRestart k s)).cash k) := by
  obtain ⟨v, hc, hv⟩ := abandonOrder_cash k (escrowRestart k s)
  rw [escrowRestart_cash] at hc hv
  rw [hc]
  exact ⟨rfl, rfl, rfl, rfl, rfl, rfl, rfl, hv⟩

/-! ### A session at a restart (R75, R99) -/

@[simp] theorem withdraw_cash (k : Kiosk) (s : State) (j : Kiosk) : (withdraw k s).cash j = s.cash j := by
  unfold withdraw
  split
  · simp [conclude]
    rfl
  · rfl
@[simp] theorem withdraw_sess (k : Kiosk) (s : State) (j : Kiosk) : (withdraw k s).sess j = s.sess j := by
  unfold withdraw
  split
  · simp [conclude]
    rfl
  · rfl

theorem strandSession_cash {k : Kiosk} {s : State} (h : (s.cash k).order = none) : (strandSession k s).cash k = s.cash k := by
  have horder : abandonOrder k (withdraw k s) = withdraw k s := abandonOrder_none (by rw [withdraw_cash, h])
  simp only [strandSession, horder, ite_self, settleRecord_cash]
  split <;> simp
theorem strandSession_serial (k : Kiosk) (s : State) : ((strandSession k s).sess k).serial = (s.sess k).serial := by
  simp only [strandSession, settleRecord_sess]
  split <;> split <;> simp [Session.strandedFigures]

theorem sessionRestart_cash {k : Kiosk} {s : State} (h : (s.cash k).order = none) : (sessionRestart k s).cash k = s.cash k := by
  simp only [sessionRestart, State.cash_updSess]
  split
  · rfl
  · rfl
  · exact strandSession_cash h
theorem sessionRestart_sess (k : Kiosk) (s : State) : (sessionRestart k s).sess k = Session.start (s.sess k).serial := by
  simp only [sessionRestart, State.sess_updSess_same]
  split
  · rfl
  · rfl
  · rw [strandSession_serial]

/-! ### The settling of the sessions (R99, R117, R154) -/

/-- The sessions settled, from the escrows to the displays. -/
def State.settledAtRestart (s : State) : State :=
  atEveryKiosk displayRestart (atEveryKiosk (fun k t => inletRestart k (setIssued k none (t.setJobs k [])))
    (atEveryKiosk sessionRestart (atEveryKiosk (fun k t => abandonOrder k (escrowRestart k t)) s)))

theorem settledAtRestart_settling (s : State) : Settling s s.settledAtRestart :=
  (atEveryKiosk_settling (fun k t => (escrowRestart_settling k t).trans (abandonOrder_settling k _)) s).trans
    ((atEveryKiosk_settling sessionRestart_settling _).trans
      ((atEveryKiosk_settling (fun k t => (setJobs_settling k t []).trans
          ((setIssued_settling k _ none).trans (inletRestart_settling k _))) _).trans
        (atEveryKiosk_settling (fun k t => setDisp_settling k t _) _)))

/-- What the settling makes of a kiosk `c`. -/
structure KioskSettled (c d : KioskCtx) : Prop where
  cash : CashRestarted c.cash d.cash
  sess : d.sess = Session.start c.sess.serial
  jobs : d.jobs = []
  issued : d.card.issued = none

/-- What is done at one kiosk is done for it alone, whatever the state. -/
theorem atEveryKiosk_ctx {P : KioskCtx → KioskCtx → Prop} {f : Kiosk → State → State}
    (hout : ∀ j t, (f j t).outside {j} = t.outside {j}) {k : Kiosk} (hat : ∀ t, P (t.ctx k) ((f k t).ctx k)) (s : State) :
    P (s.ctx k) ((atEveryKiosk f s).ctx k) :=
  atEveryKiosk_at (I := fun _ => True) (fun _ _ => id) hout (fun t _ => hat t) trivial

/-- A Cash Unit keeps what the restart made of it where its inlet alone changes, in the same mode (R49). -/
theorem CashRestarted.withInlet {c d : KCash} (h : CashRestarted c d) {i : Inlet} (hi : i.mode = d.inlet.mode) :
    CashRestarted c { d with inlet := i } :=
  ⟨h.escrow, h.escrowCmd, h.held, h.strandedMark, h.order, h.cashboxCount, hi.trans h.mode, h.tubes⟩

/-- An inlet at a restart keeps its mode, and the kiosk the rest (R49). -/
theorem inletRestart_ctx (k : Kiosk) (s : State) :
    ∃ i : Inlet, (inletRestart k s).ctx k = { s.ctx k with cash := { (s.ctx k).cash with inlet := i } } ∧
      i.mode = (s.ctx k).cash.inlet.mode := by
  refine ⟨_, by rw [inletRestart, State.updInlet, State.updCash, State.ctx_upd_same], ?_⟩
  dsimp only
  split <;> split <;> rfl

/-- The print queue, the issued write and the inlet of a kiosk at a restart (R49, R139, R154). -/
theorem emptied_kiosk (k : Kiosk) (s : State) {c : KioskCtx} (hc : CashRestarted c.cash (s.ctx k).cash)
    (hs : (s.ctx k).sess = Session.start c.sess.serial) :
    KioskSettled c ((inletRestart k (setIssued k none (s.setJobs k []))).ctx k) := by
  obtain ⟨i, hctx, hi⟩ := inletRestart_ctx k (setIssued k none (s.setJobs k []))
  simp only [setIssued, State.updCard, State.setJobs, State.ctx_upd_same] at hctx hi
  rw [setIssued, State.updCard, State.setJobs, hctx]
  exact ⟨hc.withInlet hi, hs, rfl, rfl⟩

theorem settledAtRestart_kiosk (s : State) (k : Kiosk) : KioskSettled (s.ctx k) (s.settledAtRestart.ctx k) := by
  obtain ⟨hcash, hserial⟩ := atEveryKiosk_ctx (f := fun k t => abandonOrder k (escrowRestart k t))
    (P := fun c d => CashRestarted c.cash d.cash ∧ d.sess.serial = c.sess.serial) (fun j t => by simp)
    (k := k) (fun t => ⟨cash_restarted k t,
      (congrArg Session.serial (abandonOrder_sess k _ k)).trans (escrowRestart_serial k t)⟩) s
  obtain ⟨hsame, hsess⟩ := atEveryKiosk_ctx (f := sessionRestart)
    (P := fun c d => (c.cash.order = none → d.cash = c.cash) ∧ d.sess = Session.start c.sess.serial) (fun j t => by simp)
    (k := k) (fun t => ⟨sessionRestart_cash, sessionRestart_sess k t⟩) (atEveryKiosk (fun k t => abandonOrder k (escrowRestart k t)) s)
  have hemptied := atEveryKiosk_ctx (f := fun k t => inletRestart k (setIssued k none (t.setJobs k [])))
    (P := fun c d => ∀ b, CashRestarted b.cash c.cash → c.sess = Session.start b.sess.serial → KioskSettled b d) (fun j t => by simp)
    (k := k) (fun t _ => emptied_kiosk k t)
    (atEveryKiosk sessionRestart (atEveryKiosk (fun k t => abandonOrder k (escrowRestart k t)) s)) (s.ctx k)
    (by rwa [hsame hcash.order]) (by rw [hsess, hserial])
  exact atEveryKiosk_ctx (f := displayRestart) (P := fun c d => ∀ b, KioskSettled b c → KioskSettled b d)
    (fun j t => by simp [displayRestart]) (k := k)
    (fun t b h => by
      rw [displayRestart, State.setDisp, State.ctx_upd_same]
      exact ⟨h.cash, h.sess, h.jobs, h.issued⟩) _ _ hemptied

end Sys2Proof.Machine
end

section
/-! SUPPORT. The beginning and the end of a warm restart (R188), and the settlement of the statement about the restarts. -/

namespace Sys2Proof.Machine

/-! ### The beginning (R5, R34, R139) -/

/-- The same change at every kiosk changes their contexts alone, each by it. -/
theorem atEveryKiosk_upd (f : KioskCtx → KioskCtx) (s : State) :
    atEveryKiosk (fun k t => t.upd k f) s = { s with kiosks := s.kiosks.map f } := by
  have hkiosks : (atEveryKiosk (fun k t => t.upd k f) s).kiosks = s.kiosks.map f := by
    refine Vector.ext fun i hi => ?_
    rw [Vector.getElem_map]
    exact atEveryKiosk_ctx (f := fun k t => t.upd k f) (P := fun c d => d = f c) (fun j t => by simp) (k := ⟨i, hi⟩)
      (fun t => by simp) s
  have hrest : { atEveryKiosk (fun k t => t.upd k f) s with kiosks := s.kiosks.map f } = { s with kiosks := s.kiosks.map f } :=
    foldl_keeps (fun k t => t.upd k f) (fun t => { t with kiosks := s.kiosks.map f }) (fun _ _ => rfl) allKiosks s
  rw [← hrest, ← hkiosks]

/-- What the beginning of a restart makes of a kiosk (R5, R34, R139). -/
def KioskCtx.begun (c : KioskCtx) : KioskCtx :=
  { c with link := c.link.restart, coin := { c.coin with flight := none, returnsOwed := 0 },
           card := { c.card with lastRequest := none } }

/-- The state in which the depot line, the loops, the kiosks and the authorisation list have restarted. -/
def State.restartBegun (s : State) (cause : RestartCause) (pins : Fin 32) : State :=
  { depotRestart cause pins s with
    loopA := s.loopA.restart 7, loopB := s.loopB.restart 15, cards := { s.cards with authList := [] },
    kiosks := s.kiosks.map KioskCtx.begun }

section
variable (s : State) (cause : RestartCause) (pins : Fin 32)

theorem restartBegun_eq :
    cardsRestart (atEveryKiosk (fun k t => discardCoins k (t.updLink k KLink.restart))
      { depotRestart cause pins s with loopA := s.loopA.restart 7, loopB := s.loopB.restart 15 }) = s.restartBegun cause pins := by
  have hlink : (fun (k : Kiosk) (t : State) => discardCoins k (t.updLink k KLink.restart)) = fun k t =>
      t.upd k (fun c => { c with link := c.link.restart, coin := { c.coin with flight := none, returnsOwed := 0 } }) :=
    funext₂ fun k t => by simp [discardCoins, State.updCoin, State.updLink]
  have hcard : ∀ t : State, atEveryKiosk (fun k t => t.updCard k (fun c => { c with lastRequest := none })) t =
      { t with kiosks := t.kiosks.map (fun c => { c with card := { c.card with lastRequest := none } }) } :=
    atEveryKiosk_upd _
  rw [cardsRestart, hcard, hlink, atEveryKiosk_upd, Vector.map_map]
  rfl

/-- A warm restart is its beginning, the settling of the sessions, and its end (R188). -/
theorem warmRestart_eq (seconds : Nat) :
    warmRestart cause ⟨pins, seconds⟩ s = endRestart seconds (s.restartBegun cause pins).settledAtRestart :=
  congrArg (fun t : State => endRestart seconds t.settledAtRestart) (restartBegun_eq s cause pins)

theorem restartBegun_ctx (k : Kiosk) : (s.restartBegun cause pins).ctx k = (s.ctx k).begun := Vector.getElem_map _ _

theorem restartBegun_quiet : (s.restartBegun cause pins).quiet := fun k => by
  rw [State.link, restartBegun_ctx]
  show (if (s.ctx k).link.state = .unused then LinkState.unused else .absent) ≠ .present
  split <;> decide

theorem restartBegun_loop (l : LoopId) : (s.restartBegun cause pins).loop l = (s.loop l).restart (loopLast l) := by
  cases l <;> rfl

theorem restartBegun_clock : (s.restartBegun cause pins).clock = s.clock := rfl
theorem restartBegun_settings : (s.restartBegun cause pins).settings = s.settings := rfl
theorem restartBegun_tariff : (s.restartBegun cause pins).tariff = s.tariff := rfl
theorem restartBegun_authList : (s.restartBegun cause pins).cards.authList = [] := rfl

theorem restartBegun_pending : ((s.restartBegun cause pins).depot.events[EventKind.restarted.no]).on = true := rfl

end

/-! ### The first polls (R10) -/

section
variable {s : State}

@[simp] theorem setLoop_loop_self (s : State) (l : LoopId) : s.setLoop l (s.loop l) = s := by cases l <;> rfl
@[simp] theorem setLoop_setLoop (s : State) (l : LoopId) (c d : LoopCtl) : (s.setLoop l c).setLoop l d = s.setLoop l d := by
  cases l <;> rfl

/-- A loop control with the table entry of `c` (R1). -/
def LoopCtl.sameEntry (c d : LoopCtl) : Prop := d.rate = c.rate ∧ d.edge = c.edge

/-- Without a PRESENT kiosk the poll schedule moves its loop alone (R10). -/
theorem nextPoll_of_quiet (h : s.quiet) (l : LoopId) :
    ∃ c, nextPoll l s = s.setLoop l c ∧ (s.loop l).sameEntry c := by
  have hround : (s.loop l).round.dropWhile (fun k => decide ((s.link k).state ≠ .present)) = [] :=
    List.dropWhile_eq_nil_iff.mpr fun k _ => decide_eq_true (h k)
  have hnew : ∃ c, newRound l s = s.setLoop l c ∧ (s.loop l).sameEntry c := by
    have hnone : ∀ c, kiosksIn l .present (s.setLoop l c) = [] := fun c =>
      List.filter_eq_nil_iff.mpr fun k _ => by simpa using h k
    simp only [newRound, hnone]
    split
    · exact ⟨_, by rw [pollAbsent, setLoop_setLoop], by simp [LoopCtl.sameEntry]⟩
    · exact ⟨_, setLoop_setLoop _ _ _ _, by simp [LoopCtl.sameEntry]⟩
  simp only [nextPoll, hround]
  split
  · exact hnew
  · split
    · exact ⟨_, rfl, rfl, rfl⟩
    · exact hnew

theorem startLoop_of_quiet (h : s.quiet) (l : LoopId) :
    ∃ c, startLoop l s = s.setLoop l c ∧ (s.loop l).sameEntry c := by
  unfold startLoop
  split
  · exact ⟨s.loop l, (setLoop_loop_self s l).symm, rfl, rfl⟩
  · exact nextPoll_of_quiet h l

/-- Both loops begin their schedules, and nothing else moves (R10). -/
theorem startLoops_of_quiet (h : s.quiet) :
    ∃ a b, startLoops s = { s with loopA := a, loopB := b } ∧ s.loopA.sameEntry a ∧ s.loopB.sameEntry b := by
  obtain ⟨a, ha, hsame⟩ := startLoop_of_quiet h .a
  obtain ⟨b, hb, hsame'⟩ := startLoop_of_quiet (s := s.setLoop .a a) (fun k => by rw [State.link_setLoop]; exact h k) .b
  exact ⟨a, b, by rw [startLoops, ha, hb]; rfl, hsame, hsame'⟩

end

end Sys2Proof.Machine
end

section
/-! SUPPORT. The end of a warm restart (R65, R107, R166, R173, R184), and the settlement of the statement about the restarts. -/

namespace Sys2Proof.Machine

/-! ### What the end leaves -/

/-- What the end of a restart leaves of the shared fields. -/
structure Standing where
  coins : Vector (Option CoinEntry) 16
  templates : Vector (Vector (Option LineRecord) 24) 16
  settings : Settings
  loopA : LoopCtl
  loopB : LoopCtl
  journal : Journal
  stopList : List Nat
  authList : List AuthEntry
  floatSet : Nat

def State.standing (s : State) : Standing :=
  { coins := s.coins, templates := s.templates, settings := s.settings, loopA := s.loopA, loopB := s.loopB, journal := s.journal,
    stopList := s.cards.stopList, authList := s.cards.authList, floatSet := s.cards.floatSet }

theorem loop_of_standing {s t : State} (h : t.standing = s.standing) (l : LoopId) : t.loop l = s.loop l := by
  cases l
  · exact congrArg Standing.loopA h
  · exact congrArg Standing.loopB h

theorem tariff_of_outside {s t : State} {K : Finset Kiosk} (h : t.outside K = s.outside K) : t.tariff = s.tariff :=
  congrArg Outside.tariff h

/-- A kiosk without its display record and its daily counters: what the end of a restart leaves of it. -/
def KioskCtx.desk (c : KioskCtx) : KioskCtx := { c with disp := Display.idle .closed, daily := ⟨0, 0⟩ }

/-- From `s` to `t` the end of a restart has raised kinds at most and kept what stands, at the kiosks too. -/
structure Ending (s t : State) : Prop where
  depot : RaisedFrom s t
  standing : t.standing = s.standing
  desk : s.quiet → ∀ k, (t.ctx k).desk = (s.ctx k).desk

namespace Ending
variable {s t u : State}

/-- A change that is no change of a kiosk. -/
theorem of_kiosks (hd : RaisedFrom s t) (hs : t.standing = s.standing) (hk : t.kiosks = s.kiosks) : Ending s t :=
  ⟨hd, hs, fun _ k => by rw [State.ctx, State.ctx, hk]⟩

theorem refl (s : State) : Ending s s := ⟨.of_depot rfl, rfl, fun _ _ => rfl⟩

theorem quiet (h : Ending s t) (hq : s.quiet) : t.quiet := fun k hp =>
  hq k ((congrArg (fun c : KioskCtx => c.link.state) (h.desk hq k)).symm.trans hp)

theorem trans (h : Ending s t) (g : Ending t u) : Ending s u :=
  ⟨h.depot.trans g.depot, g.standing.trans h.standing, fun hq k => (g.desk (h.quiet hq) k).trans (h.desk hq k)⟩

end Ending

theorem raise_ending (e : EventKind) (n : Option Kiosk) (s : State) : Ending s (raise e n s) :=
  .of_kiosks (raise_raisedFrom e n s) rfl rfl

theorem raiseLevel_ending (e : EventKind) (s : State) : Ending s (raiseLevel e s) := by
  unfold raiseLevel
  split
  · exact raise_ending e none s
  · exact .refl s

theorem recompute_ending (k : Kiosk) (s : State) : Ending s (recompute k s) where
  depot := .of_depot (recompute_depot k s)
  standing := by simp [State.standing]
  desk := fun hq j => by
    have hlink : ((recompute k s).ctx j).link = (s.ctx j).link := recompute_link_of_quiet hq k j
    have hcoin : ((recompute k s).ctx j).coin = (s.ctx j).coin := recompute_coin k s j
    have hcash : ((recompute k s).ctx j).cash = (s.ctx j).cash := recompute_cash k s j
    have hsess : ((recompute k s).ctx j).sess = (s.ctx j).sess := recompute_sess k s j
    have hsvc : ((recompute k s).ctx j).svc = (s.ctx j).svc := recompute_svc k s j
    have hcard : ((recompute k s).ctx j).card = (s.ctx j).card := recompute_kcard k s j
    have hjobs : ((recompute k s).ctx j).jobs = (s.ctx j).jobs := recompute_jobs k s j
    rw [KioskCtx.desk, KioskCtx.desk, hlink, hcoin, hcash, hsess, hsvc, hcard, hjobs]

theorem recomputeAll_ending (s : State) : Ending s (recomputeAll s) :=
  foldl_related .refl .trans (fun k t => recompute k t) recompute_ending allKiosks s

theorem clearDaily_ending (s : State) : Ending s (clearDaily s) := by
  refine foldl_related .refl .trans (fun k t => t.setDaily k ⟨0, 0⟩) (fun k t => ⟨.of_depot rfl, rfl, fun _ j => ?_⟩) allKiosks s
  rw [State.setDaily, State.ctx_upd]
  split <;> rfl

/-! ### The clock at the end (R65, R173) -/

theorem clearOffline_ending (s : State) : Ending s (clearOffline s) := .of_kiosks (.of_depot rfl) rfl rfl

theorem judgeRoll_ending (s : State) : Ending s (judgeRoll s) := by
  unfold judgeRoll
  split
  · have hday : Ending s (raise .dayRolled none { s with clock := { s.clock with heldDay := computedDay s } }) :=
      .of_kiosks ((raise_raisedFrom _ _ _).after rfl) rfl rfl
    exact (hday.trans (clearOffline_ending _)).trans (clearDaily_ending _)
  · exact .refl s

theorem makeSwitch_ending (i : BankId) (s : State) : Ending s (makeSwitch i s) := by
  have hbank : Ending s (raise .bankSwitched none { s with tariff := s.tariff.handOver i }) :=
    .of_kiosks ((raise_raisedFrom _ _ _).after rfl) rfl rfl
  exact hbank.trans (recomputeAll_ending _)

theorem judgeSwitch_ending (s : State) : Ending s (judgeSwitch s) := by
  unfold judgeSwitch
  split
  · exact .refl s
  · split
    · exact makeSwitch_ending _ s
    · exact .refl s

theorem clockAfterRestart_ending (seconds : Nat) (s : State) : Ending s (clockAfterRestart seconds s) := by
  unfold clockAfterRestart
  split
  · exact .refl s
  · have hnow : Ending s { s with clock := { s.clock with dateTime := s.clock.dateTime.advanceBy seconds } } :=
      .of_kiosks (.of_depot rfl) rfl rfl
    exact hnow.trans ((judgeRoll_ending _).trans (judgeSwitch_ending _))

/-- A T that the clock has reached makes the switch and raises BANK_SWITCHED (R172). -/
theorem clockTo_switched {d : DateTime} {s : State} {w : Switch} (hw : s.tariff.switch = some w) (ht : w.minute.minutes ≤ d.minutes) :
    ((clockTo d s).depot.events[EventKind.bankSwitched.no]).on = true := by
  have hmade : clockTo d s = makeSwitch w.bank (judgeRoll { s with clock := { s.clock with dateTime := d } }) := by
    simp [clockTo, judgeSwitch, hw, judgeRoll_clock, ht]
  rw [hmade]
  exact makeSwitch_raises _ _

/-- A hand-over changes the states of the banks and none of their contents (R64). -/
theorem Tariff.handOver_contents (t : Tariff) (i j : BankId) :
    { (t.handOver i).bank j with state := (t.bank j).state } = t.bank j := by
  cases i <;> cases j <;> simp only [Tariff.handOver, Tariff.setBank, Tariff.bank] <;> split <;> rfl

/-- The banks at the end of a restart: as they were, or handed over by the scheduled switch (R65). -/
theorem clockAfterRestart_tariff (seconds : Nat) (s : State) :
    (clockAfterRestart seconds s).tariff = s.tariff ∨
      ∃ w, s.tariff.switch = some w ∧ (clockAfterRestart seconds s).tariff = s.tariff.handOver w.bank := by
  unfold clockAfterRestart
  split
  · exact .inl rfl
  · rw [clockTo_tariff]
    split
    · exact .inl rfl
    next w hw =>
      split
      · exact .inr ⟨w, hw, rfl⟩
      · exact .inl rfl

/-! ### The end as a whole -/

/-- The high flag judged at the end of a restart (R166). -/
def State.highJudged (s : State) : State :=
  { s with journal := { s.journal with highFlag := decide (Config.journalHigh ≤ s.journal.occupancy) } }

/-- The level kinds and the indicators judged (R107, R184). -/
def State.rejudged (s : State) : State := recomputeAll (levelEvents.foldl (fun t e => raiseLevel e t) s)

theorem State.quiet.highJudged {s : State} (h : s.quiet) : s.highJudged.quiet := h
theorem highJudged_depot (s : State) : s.highJudged.depot = s.depot := rfl
theorem highJudged_loop (s : State) (l : LoopId) : s.highJudged.loop l = s.loop l := rfl
theorem highJudged_ctx (s : State) (k : Kiosk) : s.highJudged.ctx k = s.ctx k := rfl

theorem endRestart_eq (seconds : Nat) (s : State) :
    endRestart seconds s = startLoops (clockAfterRestart seconds s.highJudged).rejudged := rfl

theorem rejudged_ending (s : State) : Ending s s.rejudged :=
  (foldl_related .refl .trans raiseLevel raiseLevel_ending levelEvents s).trans (recomputeAll_ending _)

/-- Judging levels and indicators moves neither the clock nor the banks nor the daily counters. -/
theorem rejudged_leaves (s : State) :
    s.rejudged.clock = s.clock ∧ s.rejudged.tariff = s.tariff ∧ ∀ k, s.rejudged.daily k = s.daily k := by
  have hraise : ∀ {β : Type} (g : State → β), (∀ e t, g (raiseLevel e t) = g t) →
      g (levelEvents.foldl (fun t e => raiseLevel e t) s) = g s := fun g hg =>
    foldl_keeps (fun e t => raiseLevel e t) g hg levelEvents s
  refine ⟨?_, ?_, fun k => ?_⟩
  · rw [State.rejudged, recomputeAll_clock, hraise State.clock fun e t => clock_of_univ (by simp)]
  · rw [State.rejudged, recomputeAll_tariff, hraise State.tariff raiseLevel_tariff]
  · rw [State.rejudged, recomputeAll_daily]
    exact hraise (fun t => t.daily k) fun e t => by rw [State.daily, State.daily, State.ctx, State.ctx, raiseLevel_kiosks]

/-- The clock at the end of a restart: the elapsed seconds, the roll and the switch (R65, R173). -/
theorem rejudged_restartClock (seconds : Nat) (s : State) :
    RestartClock seconds s (clockAfterRestart seconds s.highJudged).rejudged := by
  obtain ⟨hclock, htariff, hdaily⟩ := rejudged_leaves (clockAfterRestart seconds s.highJudged)
  have hpending := (rejudged_ending (clockAfterRestart seconds s.highJudged)).depot.pending
  refine ⟨?_, fun hinvalid => ?_, fun hvalid => ?_⟩
  · cases hstate : s.clock.state with
    | invalid => rw [hclock, clockAfterRestart_invalid seconds s.highJudged hstate]; exact hstate
    | valid => rw [hclock, clockAfterRestart_valid seconds s.highJudged hstate, clockTo_clock]; exact hstate
  · rw [hclock, htariff, clockAfterRestart_invalid seconds s.highJudged hinvalid]
    exact ⟨rfl, rfl⟩
  · rw [clockAfterRestart_valid seconds s.highJudged hvalid] at hclock htariff hdaily hpending ⊢
    obtain ⟨hnow, hrolls, -, -⟩ := clockTo_rolledTo (s.highJudged.clock.dateTime.advanceBy seconds) s.highJudged
    rw [hnow] at hclock
    rw [clockTo_tariff] at htariff
    refine ⟨by rw [hclock]; rfl, by rw [hclock]; rfl, fun hrise => ?_, fun w hw => ?_⟩
    · rw [hclock] at hrise
      obtain ⟨hraised, hcleared⟩ := hrolls ((lt_max_iff.mp hrise).resolve_left (lt_irrefl _))
      exact ⟨hpending _ hraised, fun k => (hdaily k).trans (hcleared k)⟩
    · have hdue : (clockTo (s.highJudged.clock.dateTime.advanceBy seconds) s.highJudged).rejudged.clock.dateTime =
          s.highJudged.clock.dateTime.advanceBy seconds := by rw [hclock]
      have hw' : s.highJudged.tariff.switch = some w := hw
      simp only [hw'] at htariff
      rw [hdue]
      split
      next ht =>
        rw [if_pos ht] at htariff
        rw [htariff]
        exact ⟨Tariff.handOver_switch _ _, by rw [Tariff.handOver_state, if_pos rfl], hpending _ (clockTo_switched hw ht)⟩
      next ht =>
        rw [if_neg ht] at htariff
        exact htariff

theorem rejudged_handOver (seconds : Nat) (s : State) :
    (clockAfterRestart seconds s.highJudged).rejudged.tariff = s.tariff ∨
      ∃ w, s.tariff.switch = some w ∧ (clockAfterRestart seconds s.highJudged).rejudged.tariff = s.tariff.handOver w.bank := by
  rw [(rejudged_leaves _).2.1]
  exact clockAfterRestart_tariff seconds s.highJudged

/-- What a restart's end makes of the clock and the banks is read from the clock, the boundary and the banks. -/
theorem RestartClock.congr {seconds : Nat} {r s t : State} (h : RestartClock seconds r t) (hclock : r.clock = s.clock)
    (hsettings : r.settings = s.settings) (htariff : r.tariff = s.tariff) : RestartClock seconds s t := by
  unfold RestartClock at h ⊢
  rwa [hclock, hsettings, htariff] at h

/-! ### The restart as a whole (R188) -/

/-- What a warm restart keeps of the shared tables, and the records it adds (R42, R54, R139, R140, R166). -/
structure RestartKept (s t : State) : Prop where
  coins : t.coins = s.coins
  templates : t.templates = s.templates
  settings : t.settings = s.settings
  stopList : t.cards.stopList = s.cards.stopList
  authList : t.cards.authList = []
  floatSet : t.cards.floatSet = s.cards.floatSet
  records : ∃ settled, t.journal.records = s.journal.records ++ settled ∧
    ∀ r ∈ settled, r.closeTime = s.clock.dateTime ∧ r.serviceDay = s.clock.heldDay

theorem Settling.kept {b e t : State} (h : Settling b e) (g : Ending e.highJudged t) (hlist : b.cards.authList = []) :
    RestartKept b t where
  coins := (congrArg Standing.coins g.standing).trans (congrArg Outside.coins h.outside)
  templates := (congrArg Standing.templates g.standing).trans (congrArg Outside.templates h.outside)
  settings := (congrArg Standing.settings g.standing).trans (congrArg Outside.settings h.outside)
  stopList := (congrArg Standing.stopList g.standing).trans (congrArg Outside.stopList h.outside)
  authList := (congrArg Standing.authList g.standing).trans (h.continues.listed hlist)
  floatSet := (congrArg Standing.floatSet g.standing).trans h.continues.floatSet
  records := by
    have hrecords : t.journal.records = e.journal.records := congrArg (fun x : Standing => x.journal.records) g.standing
    rw [hrecords]
    exact h.records

theorem restartBegun_kept (s : State) (cause : RestartCause) (pins : Fin 32) {t : State} (h : RestartKept (s.restartBegun cause pins) t) :
    RestartKept s t :=
  ⟨h.coins, h.templates, h.settings, h.stopList, h.authList, h.floatSet, h.records⟩

/-- What a warm restart makes of a kiosk `c`. -/
structure KioskRestarted (c d : KioskCtx) : Prop where
  link : d.link = c.link.restart
  coin : d.coin = { c.coin with flight := none, returnsOwed := 0 }
  cash : CashRestarted c.cash d.cash
  sess : d.sess = Session.start c.sess.serial
  svc : d.svc = c.svc
  jobs : d.jobs = []
  issued : d.card.issued = none
  lastRequest : d.card.lastRequest = none

theorem KioskRestarted.of_settled {c d e : KioskCtx} (hrest : AtRest c.begun e) (hsettled : KioskSettled c.begun e)
    (hdesk : d.desk = e.desk) : KioskRestarted c d where
  link := (congrArg (fun x : KioskCtx => x.link) hdesk).trans hrest.link
  coin := (congrArg (fun x : KioskCtx => x.coin) hdesk).trans hrest.coin
  cash := by
    have hcash : d.desk.cash = e.desk.cash := congrArg KioskCtx.cash hdesk
    exact (congrArg (CashRestarted c.cash) hcash).mpr hsettled.cash
  sess := (congrArg (fun x : KioskCtx => x.sess) hdesk).trans hsettled.sess
  svc := (congrArg (fun x : KioskCtx => x.svc) hdesk).trans hrest.svc
  jobs := (congrArg (fun x : KioskCtx => x.jobs) hdesk).trans hsettled.jobs
  issued := (congrArg (fun x : KioskCtx => x.card.issued) hdesk).trans hsettled.issued
  lastRequest := (congrArg (fun x : KioskCtx => x.card.lastRequest) hdesk).trans (hrest.lastRequest rfl)

section
variable (s : State) (cause : RestartCause) (pins : Fin 32) (seconds : Nat)

/-- The restarted part before its first polls. -/
def State.restarted : State :=
  (clockAfterRestart seconds (s.restartBegun cause pins).settledAtRestart.highJudged).rejudged

theorem settled_settling : Settling (s.restartBegun cause pins) (s.restartBegun cause pins).settledAtRestart :=
  settledAtRestart_settling _

theorem restarted_ending :
    Ending (s.restartBegun cause pins).settledAtRestart.highJudged (s.restarted cause pins seconds) :=
  (clockAfterRestart_ending _ _).trans (rejudged_ending _)

theorem settled_quiet : (s.restartBegun cause pins).settledAtRestart.highJudged.quiet :=
  ((settled_settling s cause pins).quiet (restartBegun_quiet s cause pins)).highJudged

theorem warmRestart_polls :
    ∃ a b, warmRestart cause ⟨pins, seconds⟩ s = { s.restarted cause pins seconds with loopA := a, loopB := b } ∧
      (s.restarted cause pins seconds).loopA.sameEntry a ∧ (s.restarted cause pins seconds).loopB.sameEntry b := by
  rw [warmRestart_eq, endRestart_eq]
  exact startLoops_of_quiet ((restarted_ending s cause pins seconds).quiet (settled_quiet s cause pins))

theorem restarted_raised : RaisedFrom (s.restartBegun cause pins) (s.restarted cause pins seconds) :=
  (settled_settling s cause pins).continues.depot.trans ((restarted_ending s cause pins seconds).depot.after (highJudged_depot _))

theorem restarted_kiosk (k : Kiosk) : KioskRestarted (s.ctx k) ((s.restarted cause pins seconds).ctx k) := by
  have hrest := (settled_settling s cause pins).rest (restartBegun_quiet s cause pins) k
  have hsettled := settledAtRestart_kiosk (s.restartBegun cause pins) k
  have hdesk := (restarted_ending s cause pins seconds).desk (settled_quiet s cause pins) k
  rw [restartBegun_ctx] at hrest hsettled
  rw [highJudged_ctx] at hdesk
  exact .of_settled hrest hsettled hdesk

theorem restarted_restartClock : RestartClock seconds s (s.restarted cause pins seconds) := by
  have hout := (settled_settling s cause pins).outside
  have h := rejudged_restartClock seconds (s.restartBegun cause pins).settledAtRestart
  have hclock := (clock_of_univ hout).trans (restartBegun_clock s cause pins)
  have hsettings := (settings_of_outside hout).trans (restartBegun_settings s cause pins)
  have htariff := (tariff_of_outside hout).trans (restartBegun_tariff s cause pins)
  exact h.congr hclock hsettings htariff

theorem restarted_kept : RestartKept s (s.restarted cause pins seconds) :=
  restartBegun_kept s cause pins
    ((settled_settling s cause pins).kept (restarted_ending s cause pins seconds) (restartBegun_authList s cause pins))

/-- The banks as they were, or handed over by the scheduled switch (R65). -/
theorem restarted_tariff :
    (s.restarted cause pins seconds).tariff = s.tariff ∨
      ∃ w, s.tariff.switch = some w ∧ (s.restarted cause pins seconds).tariff = s.tariff.handOver w.bank := by
  have htariff := (tariff_of_outside (settled_settling s cause pins).outside).trans (restartBegun_tariff s cause pins)
  have h := rejudged_handOver seconds (s.restartBegun cause pins).settledAtRestart
  rwa [htariff] at h

/-- The loop table stands (R1). -/
theorem restarted_loop (l : LoopId) : (s.loop l).sameEntry ((s.restarted cause pins seconds).loop l) := by
  have hsettled := (settled_settling s cause pins).continues.loop l
  have hended := loop_of_standing (restarted_ending s cause pins seconds).standing l
  rw [highJudged_loop, hsettled, restartBegun_loop] at hended
  rw [hended]
  exact ⟨rfl, rfl⟩

end

end Sys2Proof.Machine
end

section
/-! SUPPORT. What a warm restart leaves (R188), the frames that are not received before one, and the settlement of the statement about the
restarts. -/

namespace Sys2Proof.Machine

/-! ### What a restart leaves -/

section
variable {start : WarmStart} {s t : State} {cause : RestartCause}

/-- The banks keep their contents, and without a scheduled switch their states too (R65). -/
theorem banks_of_handOver (h : t.tariff = s.tariff ∨ ∃ w, s.tariff.switch = some w ∧ t.tariff = s.tariff.handOver w.bank) :
    (∀ i, { t.tariff.bank i with state := (s.tariff.bank i).state } = s.tariff.bank i) ∧
      (s.tariff.switch = none → t.tariff = s.tariff) := by
  obtain hsame | ⟨w, hw, hover⟩ := h
  · exact ⟨fun i => by rw [hsame], fun _ => hsame⟩
  · refine ⟨fun i => ?_, fun hnone => absurd (hnone.symm.trans hw) (Option.some_ne_none w).symm⟩
    rw [hover]
    exact Tariff.handOver_contents s.tariff w.bank i

/-- The statement's reading of a restart, from what it makes of the depot line, the tables, the loops and each kiosk. -/
theorem Restarted.intro (hdepot : RaisedFrom (s.restartBegun cause start.pins) t) (hkept : RestartKept s t)
    (hclock : RestartClock start.seconds s t)
    (htariff : t.tariff = s.tariff ∨ ∃ w, s.tariff.switch = some w ∧ t.tariff = s.tariff.handOver w.bank)
    (hloop : ∀ l, (s.loop l).sameEntry (t.loop l)) (hkiosk : ∀ k, KioskRestarted (s.ctx k) (t.ctx k)) :
    Restarted start s t := by
  obtain ⟨hbank, hnone⟩ := banks_of_handOver htariff
  refine ⟨⟨hdepot.station, hdepot.mode, hdepot.unmasked, hdepot.restartOwed,
      hdepot.pending _ (restartBegun_pending s cause start.pins)⟩,
    ⟨hkept.coins, hkept.templates, hkept.settings, hkept.stopList, hkept.authList, hkept.floatSet, hkept.records⟩,
    hclock, hbank, hnone, hloop, fun k => ⟨?_, ?_, ?_, ?_⟩⟩
  · have hlink : t.link k = (s.link k).restart := (hkiosk k).link
    rw [hlink]
    exact ⟨rfl, rfl, rfl, rfl, rfl, rfl, rfl, rfl, rfl, rfl, rfl, rfl, rfl, rfl⟩
  · have hcoin : t.coin k = { s.coin k with flight := none, returnsOwed := 0 } := (hkiosk k).coin
    rw [hcoin]
    exact ⟨rfl, rfl, rfl, rfl, rfl⟩
  · have hcash : CashRestarted (s.cash k) (t.cash k) := (hkiosk k).cash
    exact ⟨hcash.escrow, hcash.escrowCmd, hcash.held, hcash.strandedMark, hcash.order, hcash.cashboxCount, hcash.mode, hcash.tubes⟩
  · exact ⟨(hkiosk k).sess, (hkiosk k).svc, (hkiosk k).jobs, (hkiosk k).issued, (hkiosk k).lastRequest⟩

end

/-- The first polls keep all that a restart leaves, and leave the depot line alone. -/
theorem Restarted.polls {start : WarmStart} {s t u : State} (h : Restarted start s t) {a b : LoopCtl}
    (hu : u = { t with loopA := a, loopB := b }) (ha : t.loopA.sameEntry a) (hb : t.loopB.sameEntry b) :
    u.depot = t.depot ∧ Restarted start s u := by
  subst hu
  obtain ⟨hdepot, hkept, hclock, hbank, hnone, hloop, hkiosk⟩ := h
  refine ⟨rfl, hdepot, hkept, hclock, hbank, hnone, fun l => ?_, hkiosk⟩
  have hentry := hloop l
  cases l
  · exact ⟨ha.1.trans hentry.1, ha.2.trans hentry.2⟩
  · exact ⟨hb.1.trans hentry.1, hb.2.trans hentry.2⟩

section
variable (s : State) (cause : RestartCause) (start : WarmStart)

theorem restarted_restarted : Restarted start s (s.restarted cause start.pins start.seconds) :=
  .intro (restarted_raised s cause start.pins start.seconds) (restarted_kept s cause start.pins start.seconds)
    (restarted_restartClock s cause start.pins start.seconds) (restarted_tariff s cause start.pins start.seconds)
    (restarted_loop s cause start.pins start.seconds) (restarted_kiosk s cause start.pins start.seconds)

/-- A warm restart: its cause, the link that it leaves, and all that it keeps and restarts. -/
theorem warmRestart_leaves :
    (warmRestart cause start s).depot.cause = cause ∧
      (warmRestart cause start s).depot.link = (s.restartBegun cause start.pins).depot.link ∧
      Restarted start s (warmRestart cause start s) := by
  obtain ⟨a, b, hpolls, ha, hb⟩ := warmRestart_polls s cause start.pins start.seconds
  have hraised := restarted_raised s cause start.pins start.seconds
  obtain ⟨hdepot, hleft⟩ := (restarted_restarted s cause start).polls hpolls ha hb
  rw [hdepot]
  exact ⟨hraised.cause, hraised.link, hleft⟩

end

/-! ### The frames before a restart (R175, R188) -/

section
variable {s : State} (howed : s.depot.restartOwed = true)
include howed

theorem received_of_owed (f : State → State) : received f s = s := if_pos howed

theorem depotRequest_of_owed (kind : Byte) (h : Handler) : depotRequest kind h s = s := received_of_owed howed _

end

/-- By the rows of Table 12-6: a command that a request frame spells is judged by a handler, or is a frame of no listed kind. -/
theorem request_cases {c : Instr} (h : (encodeRequest c).isSome = true) :
    (∃ kind p, c = .badKind kind p) ∨ ∃ hd, handlerOf c = some hd := by
  cases c <;> simp at h ⊢

/-- Before a restart no request is received, whatever it asks. -/
theorem exec_request_of_owed {s : State} (howed : s.depot.restartOwed = true) {c : Instr} (h : (encodeRequest c).isSome = true) :
    exec c s = .next s := by
  obtain ⟨kind, p, rfl⟩ | ⟨hd, hhandler⟩ := request_cases h
  · refine congrArg Host.Outcome.next ?_
    split
    · exact received_of_owed howed _
    · exact depotRequest_of_owed howed _ _
  · obtain ⟨kind, hexec⟩ := exec_request hhandler s
    rw [hexec, depotRequest_of_owed howed]

/-! ### The statement -/

theorem exec_resetPin (start : WarmStart) (s : State) : exec (.resetPin start) s = .next (warmRestart .pin start s) := rfl

theorem exec_commandRestart {s : State} (howed : s.depot.restartOwed = true) (start : WarmStart) :
    exec (.commandRestart start) s = .next (warmRestart .command start s) :=
  congrArg Host.Outcome.next (if_pos howed)

theorem exec_restart (s : State) : exec .restart s = .next (depotRequest 0x54 doRestart s) := rfl

/-- Settles O8: a restart block by block, the request that asks for one, and the frames that come before it. -/
theorem restartsAndTheirRequest : Obligations.RestartsAndTheirRequest := by
  refine ⟨fun start s => ⟨?_, fun howed => ?_⟩, fun s hs => exec_answered hs (exec_restart s) rfl, fun s c howed hframe => ?_⟩
  · obtain ⟨hcause, hlink, hleft⟩ := warmRestart_leaves s .pin start
    exact ⟨_, exec_resetPin start s, hcause, hlink, hleft⟩
  · obtain ⟨hcause, hlink, hleft⟩ := warmRestart_leaves s .command start
    exact ⟨_, exec_commandRestart howed start, hcause, hlink, hleft⟩
  · obtain rfl | rfl | rfl | hrequest := hframe
    · exact congrArg Host.Outcome.next (received_of_owed howed _)
    · exact congrArg Host.Outcome.next (received_of_owed howed _)
    · exact congrArg Host.Outcome.next (received_of_owed howed _)
    · exact exec_request_of_owed howed hrequest

end Sys2Proof.Machine
end

section
/-! SUPPORT. The queue of waiting commands (log entry 2): no operation of the part reaches it, so that a step runs its front
command and leaves its rest. -/

namespace Sys2Proof.Machine

/-! ### The operations of the part -/

/-- The doings at a kiosk leave the waiting commands alone. -/
theorem pending_of_univ {s t : State} (h : t.outside .univ = s.outside .univ) : t.pending = s.pending := congrArg Outside.pending h

@[simp] theorem clearDaily_pending (s : State) : (clearDaily s).pending = s.pending :=
  foldl_keeps (fun k t => t.setDaily k _) (fun t => t.pending) (fun _ _ => rfl) allKiosks s
@[simp] theorem judgeRoll_pending (s : State) : (judgeRoll s).pending = s.pending := by
  unfold judgeRoll; split <;> simp [dayRoll, clearOffline]
@[simp] theorem makeSwitch_pending (i : BankId) (s : State) : (makeSwitch i s).pending = s.pending := by simp [makeSwitch]
@[simp] theorem judgeSwitch_pending (s : State) : (judgeSwitch s).pending = s.pending := by
  unfold judgeSwitch; repeat' split
  all_goals simp
@[simp] theorem clockTo_pending (d : DateTime) (s : State) : (clockTo d s).pending = s.pending := by simp [clockTo]
@[simp] theorem clockTick_pending (s : State) : (clockTick s).pending = s.pending := by
  simp only [clockTick]; repeat' split
  all_goals simp
@[simp] theorem setClock_pending (d : DateTime) (s : State) : (setClock d s).pending = s.pending := by
  unfold setClock; split <;> simp
@[simp] theorem clockAfterRestart_pending (n : Nat) (s : State) : (clockAfterRestart n s).pending = s.pending := by
  unfold clockAfterRestart; split <;> simp
@[simp] theorem writeCoin_pending (t : CoinType) (e : Option CoinEntry) (s : State) : (writeCoin t e s).pending = s.pending := by
  rw [writeCoin, recomputeAll_pending]
  exact foldl_keeps (fun k x => tableChangedAt k x) (fun x => x.pending)
    (fun k x => pending_of_univ (tableChangedAt_outside (Finset.mem_univ k) x)) allKiosks _
@[simp] theorem foldl_stopListHit_pending (n : Nat) (s : State) :
    (allKiosks.foldl (fun t k => stopListHit n k t) s).pending = s.pending :=
  foldl_keeps (fun k t => stopListHit n k t) (fun t => t.pending) (fun _ _ => pending_of_univ (by simp)) allKiosks s

theorem endRestart_pending (n : Nat) (s : State) : (endRestart n s).pending = s.pending := by
  rw [endRestart, pending_of_univ (startLoops_outside _), recomputeAll_pending,
    foldl_keeps (fun e t => raiseLevel e t) (fun t => t.pending) (fun _ _ => pending_of_univ (by simp)), clockAfterRestart_pending]

theorem warmRestart_pending (c : RestartCause) (w : WarmStart) (s : State) : (warmRestart c w s).pending = s.pending := by
  rw [warmRestart, endRestart_pending]
  refine pending_of_univ ?_
  rw [atEveryKiosk_outside (by simp [displayRestart]), atEveryKiosk_outside (by simp), atEveryKiosk_outside (by simp),
    atEveryKiosk_outside (by simp), cardsRestart_outside, atEveryKiosk_outside (by simp)]
  rfl

/-! ### The handlers of the requests -/

/-- A handler that leaves the waiting commands alone. -/
def Handler.KeepsPending (h : Handler) : Prop := ∀ s, (h s).1.pending = s.pending

theorem sized_keepsPending {α : Type} (l : List α) (n : Nat) {h : Handler} (hh : h.KeepsPending) :
    (sized l n h).KeepsPending := by
  intro s
  unfold sized; split
  · exact hh s
  · rfl

theorem bankedWrite_keepsPending (bank : Byte) (f : Bank → Except Status Bank) : (bankedWrite bank f).KeepsPending := by
  intro s
  simp only [bankedWrite]; repeat' split
  all_goals rfl

theorem kioskControl_keepsPending (kiosk : Byte) (refused : Kiosk → State → Bool) {act : Kiosk → State → State}
    (h : ∀ k t, (act k t).outside .univ = t.outside .univ) : (kioskControl kiosk refused act).KeepsPending := by
  intro s
  refine pending_of_univ ?_
  simp only [kioskControl]; repeat' split
  all_goals simp [h]

/-- The handlers by what they reach: nothing, a table of the depot's, the clock, or the kiosks. -/
theorem handlerOf_keepsPending {i : Instr} {h : Handler} (hi : handlerOf i = some h) : h.KeepsPending := by
  cases i <;> cases hi
  case statusRead | tableReadSettings | authFetch | eventsRead | stoplistClear | restart => exact fun _ => rfl
  case tableWriteHeader | tableWriteProduct | tableWriteFare | tableWriteBand | tableWriteDayplan | tableWriteClass =>
    exact sized_keepsPending _ _ (bankedWrite_keepsPending _ _)
  case tableWriteHoliday => exact bankedWrite_keepsPending _ _
  case kioskControlInService | kioskControlOutOfService | kioskControlBlock | kioskControlRelease | kioskControlModeLatched |
      kioskControlModeFollowing =>
    exact kioskControl_keepsPending _ _ (by simp)
  case tableWriteTemplate =>
    refine sized_keepsPending _ _ fun s => ?_
    repeat' split
    all_goals rfl
  all_goals intro s
  case tableReadLoop | tableReadKiosk | tableReadCalib | tableReadCoin | tableReadTube | tableReadTemplate | kioskRead |
      journalRead | journalPop | switchCancel | eventsMask =>
    simp only [doReadLoop, doReadKiosk, doReadCalib, doReadCoin, doReadTube, doReadTemplate, doKioskRead, doJournalRead,
      doJournalPop, doSwitchCancel, doEventsMask]
    split <;> rfl
  case tableReadBanked | stoplistRemove =>
    simp only [doReadBanked, doStoplistRemove]; repeat' split
    all_goals rfl
  case clockSet | tableWriteLoop | tableWriteCalib | tableWriteCoin =>
    simp only [doClockSet, doWriteLoop, doWriteCalib, doWriteCoin]; repeat' split
    all_goals simp
  case tableWriteSettings | bankSwitch =>
    simp only [doWriteSettings, doBankSwitch]; repeat' split
    all_goals simp only [refuse_state, taken_state]
    split <;> simp
  case stoplistAdd =>
    simp only [doStoplistAdd]; repeat' split
    all_goals simp [State.setStop]
  all_goals refine pending_of_univ ?_
  case tableWriteKiosk | tableWriteTube | authAnswer =>
    simp only [doWriteKiosk, doWriteTube, doAuthAnswer]; repeat' split
    all_goals simp
  case eventsClear => unfold doEventsClear; split <;> simp
  case floatSet =>
    unfold doFloatSet; repeat' split
    all_goals simp [setFloat]
  case modeSetLoading | modeSetSelling | modeSetSuspended =>
    simp only [doModeLoading, doModeSelling, doModeSuspended]; repeat' split
    all_goals simp [incomplete]

theorem doRaw_keepsPending (kind : Byte) (p : List Byte) : (doRaw kind p).KeepsPending := by
  intro s
  unfold doRaw; split
  next h hi => exact handlerOf_keepsPending hi s
  next => rfl

theorem received_pending {f : State → State} (h : ∀ t, (f t).pending = t.pending) (s : State) :
    (received f s).pending = s.pending := by
  unfold received; split
  · rfl
  · exact h s

theorem depotRequest_pending {h : Handler} (hh : h.KeepsPending) (kind : Byte) (s : State) :
    (depotRequest kind h s).pending = s.pending := by
  refine received_pending (fun t => ?_) s
  dsimp only
  split
  · exact frameForStation_pending t
  · exact (hh _).trans (frameForStation_pending t)

/-! ### Every command -/

theorem exec_isNext (c : Instr) (s : State) : ∃ t, exec c s = .next t := by
  cases c <;> exact ⟨_, rfl⟩

/-- The starts, the misses, the timers and the frames that no row reads. -/
theorem exec_event_pending {i : Instr} (hreq : handlerOf i = none) (hrep : i.replyLine = none) {s t : State}
    (h : exec i s = .next t) : t.pending = s.pending := by
  cases i <;> cases hreq <;> cases hrep <;> obtain rfl := Host.Outcome.next.inj h
  case coldStart => rfl
  case resetPin w => exact warmRestart_pending .pin w s
  case commandRestart w =>
    split
    · exact warmRestart_pending .command w s
    · rfl
  case frameAbandoned | missNoReply | missBadCheck | missWrongAddress => exact pending_of_univ (missExchange_outside _ s)
  case inactivityTimerExpiry | authorisationTimerExpiry | cardWriteTimerExpiry | payoutTimerExpiry =>
    exact pending_of_univ (by split <;> simp)
  case supervisionTimerExpiry =>
    unfold supervisionExpired; split
    · exact pending_of_univ (linkLoss_outside _)
    · rfl
  case holdTimerExpiry => unfold holdExpired; split <;> rfl
  case huntStepExpiry => unfold huntExpired; split <;> rfl
  case clockSecond => exact clockTick_pending s
  case depotBadFrame => exact received_pending (f := State.noReply) (fun _ => rfl) s
  case depotFrameOtherStation => exact received_pending (fun t => by unfold frameForOther; split <;> rfl) s
  case depotFrameNoReply => exact received_pending (f := fun t => (frameForStation t).noReply) frameForStation_pending s
  case badKind kind p =>
    split
    · exact received_pending (f := fun t => (frameForStation t).noReply) frameForStation_pending s
    · exact depotRequest_pending (doRaw_keepsPending kind p) kind s

/-- A command is a request, a good reply, or one of the others. -/
theorem exec_pending {c : Instr} {s t : State} (h : exec c s = .next t) : t.pending = s.pending := by
  cases hreq : handlerOf c with
  | some hd =>
    obtain ⟨kind, he⟩ := exec_request hreq s
    cases he.symm.trans h
    exact depotRequest_pending (handlerOf_keepsPending hreq) kind s
  | none =>
    cases hrep : c.replyLine with
    | some p => exact pending_of_univ (exec_reply_outside hrep h)
    | none => exact exec_event_pending hreq hrep h

/-- Settles O2: every row of the dispatch answers a next state. -/
theorem everyCommandLeavesQueueAlone : Obligations.EveryCommandLeavesQueueAlone := by
  intro c s
  obtain ⟨t, ht⟩ := exec_isNext c s
  exact ⟨t, ht, exec_pending ht⟩

/-- Settles O1: with a command at the front, the step is its execution. -/
theorem stepRunsFrontCommand : Obligations.StepRunsFrontCommand := fun _ _ _ => rfl

end Sys2Proof.Machine
end

section
/-! SUPPORT. The tables that belong to no bank (R181): what their reads answer, and the writes that are taken. -/

namespace Sys2Proof.Machine

/-! ### The rows of the dispatch -/

section
variable (s : State)

theorem exec_tableReadLoop (i : Byte) : exec (.tableReadLoop i) s = .next (depotRequest 0x43 (doReadLoop i) s) := rfl
theorem exec_tableReadKiosk (i : Byte) : exec (.tableReadKiosk i) s = .next (depotRequest 0x43 (doReadKiosk i) s) := rfl
theorem exec_tableReadCalib (i : Byte) : exec (.tableReadCalib i) s = .next (depotRequest 0x43 (doReadCalib i) s) := rfl
theorem exec_tableReadCoin (i : Byte) : exec (.tableReadCoin i) s = .next (depotRequest 0x43 (doReadCoin i) s) := rfl
theorem exec_tableReadTube (i : Byte) : exec (.tableReadTube i) s = .next (depotRequest 0x43 (doReadTube i) s) := rfl
theorem exec_tableReadSettings : exec .tableReadSettings s = .next (depotRequest 0x43 doReadSettings s) := rfl
theorem exec_tableReadTemplate (i p : Byte) :
    exec (.tableReadTemplate i p) s = .next (depotRequest 0x43 (doReadTemplate i p) s) := rfl
theorem exec_tableReadBanked (t : BankedTable) (b i : Byte) :
    exec (.tableReadBanked t b i) s = .next (depotRequest 0x43 (doReadBanked t b i) s) := rfl
theorem exec_statusRead : exec .statusRead s = .next (depotRequest 0x40 doStatusRead s) := rfl
theorem exec_tableWriteLoop (i r e : Byte) :
    exec (.tableWriteLoop i r e) s = .next (depotRequest 0x42 (doWriteLoop i r e) s) := rfl
theorem exec_tableWriteCalib (i : Byte) (u : CalibUnit) :
    exec (.tableWriteCalib i u) s = .next (depotRequest 0x42 (doWriteCalib i u) s) := rfl
theorem exec_tableWriteSettings (i : Byte) (x : Half) :
    exec (.tableWriteSettings i x) s = .next (depotRequest 0x42 (doWriteSettings i x) s) := rfl
theorem exec_tableWriteTemplate (i p : Byte) (u : TemplateUnit) :
    exec (.tableWriteTemplate i p u) s = .next (depotRequest 0x42 (doWriteTemplate i p u) s) := rfl

end

/-! ### Indices and fields -/

theorem kioskOf_eq {index : Byte} {k : Kiosk} (h : index.toNat = k.val) : kioskOf index = some k := finOf_eq h

theorem loopIndexOf_eq {index : Byte} {l : LoopId} (h : index = match l with | .a => 0#8 | .b => 1#8) :
    loopIndexOf index = some l := by
  subst h; cases l <;> rfl

theorem loopRateOf_eq {rate : Byte} {r : LoopRate} (h : rate = match r with | .r38400 => 0#8 | .r115200 => 1#8) :
    loopRateOf rate = some r := by
  subst h; cases r <;> rfl

theorem doorEdgeOf_eq {edge : Byte} {e : DoorEdge} (h : edge = match e with | .opening => 0#8 | .closing => 1#8 | .both => 2#8) :
    doorEdgeOf edge = some e := by
  subst h; cases e <;> rfl

theorem calibOf_eq {offset : Half} {gain : Byte} (ho : offset.toNat ≤ 511) (hg : gain.toNat ≤ 3) :
    calibOf offset gain = some ⟨offset.toNat, gain.toNat⟩ := if_pos ⟨ho, hg⟩

/-! ### What the reads answer (R1, R20, R21, R42, R60, R140, R192) -/

section
variable (s : State)

theorem doReadLoop_some {index : Byte} {l : LoopId} (h : loopIndexOf index = some l) :
    doReadLoop index s = (s, { status := .ok, data := byte1 (s.loop l).rate.code ++ byte1 (s.loop l).edge.code }) := by
  simp only [doReadLoop, h, readOut]

/-- The presence byte of a KIOSK unit says whether the kiosk is configured. -/
theorem flagByte_configured (x : LinkState) : flagByte (decide (x ≠ .unused)) = byte1 (if x = .unused then 0 else 1) := by
  cases x <;> rfl

theorem doReadKiosk_some {index : Byte} {k : Kiosk} (h : kioskOf index = some k) :
    doReadKiosk index s =
      (s, { status := .ok, data := byte1 (if (s.link k).state = .unused then 0 else 1) ++ byte1 (s.link k).state.code }) := by
  simp only [doReadKiosk, h, readOut, flagByte_configured]

theorem doReadCalib_some {index : Byte} {k : Kiosk} (h : kioskOf index = some k) :
    doReadCalib index s =
      (s, { status := .ok, data := (s.coin k).calib1.bytes ++ (s.coin k).calib2.bytes ++ (s.coin k).calib3.bytes }) := by
  simp only [doReadCalib, h, readOut]

/-- What six tubes give, one after the other in the order of the tubes. -/
theorem flatMap_tubes {α β : Type} (f : α → List β) (tubes : Vector α 6) :
    tubes.toList.flatMap f = f tubes[(0 : TubeNo)] ++ f tubes[(1 : TubeNo)] ++ f tubes[(2 : TubeNo)] ++ f tubes[(3 : TubeNo)] ++
      f tubes[(4 : TubeNo)] ++ f tubes[(5 : TubeNo)] := by
  have hlist : tubes.toList = [tubes[0], tubes[1], tubes[2], tubes[3], tubes[4], tubes[5]] :=
    List.ext_getElem (by simp) fun i hi _ => by
      have : i < 6 := by simpa using hi
      interval_cases i <;> simp
  simp [hlist]

theorem doReadTube_some {index : Byte} {k : Kiosk} (h : kioskOf index = some k) :
    doReadTube index s = (s, { status := .ok, data := (s.cash k).tubes.toList.flatMap Tube.bytes }) := by
  simp only [doReadTube, h, readOut]

theorem doReadCoin_some {index : Byte} {i : CoinType} (h : finOf 16 index.toNat = some i) :
    doReadCoin index s = (s, { status := .ok, data := CoinEntry.bytes s.coins[i] }) := by
  simp only [doReadCoin, h, readOut]

theorem doReadTemplate_some {index place : Byte} {t : Fin 16} {p : Fin 24} (ht : finOf 16 index.toNat = some t)
    (hp : finOf 24 place.toNat = some p) :
    doReadTemplate index place s = (s, { status := .ok, data := LineRecord.bytes (s.templates[t])[p] }) := by
  simp only [doReadTemplate, ht, hp, readOut]

theorem doReadBanked_some {t : BankedTable} {letter index : Byte} {i : BankId} {unit : List Byte} (hi : bankOf letter = some i)
    (hu : bankedUnit (s.tariff.bank i) t index.toNat = some unit) :
    doReadBanked t letter index s = (s, { status := .ok, data := unit }) := by
  simp only [doReadBanked, hi, hu, readOut]

end

/-- Settles O32: each read is heard and answers its unit; the frame leaves every unit as it was. -/
theorem readsAnswerUnits : Obligations.ReadsAnswerUnits := by
  intro index place letter s hs v
  refine ⟨fun l hl => ?_, fun k hk => ⟨?_, ?_, ?_⟩, fun i hi => ?_, ?_, fun t p ht hp => ?_, fun i t unit hi hu => ?_, ?_⟩
  · simpa only [frameForStation_loop] using exec_answered hs (exec_tableReadLoop ..) (doReadLoop_some _ (loopIndexOf_eq hl))
  · simpa only [frameForStation_link] using exec_answered hs (exec_tableReadKiosk ..) (doReadKiosk_some _ (kioskOf_eq hk))
  · simpa only [frameForStation_coin] using exec_answered hs (exec_tableReadCalib ..) (doReadCalib_some _ (kioskOf_eq hk))
  · simpa only [frameForStation_cash, flatMap_tubes] using
      exec_answered hs (exec_tableReadTube ..) (doReadTube_some _ (kioskOf_eq hk))
  · simpa only [frameForStation_coins] using exec_answered hs (exec_tableReadCoin ..) (doReadCoin_some _ (finOf_eq hi))
  · simpa only [frameForStation_settings] using exec_answered hs (exec_tableReadSettings s) rfl
  · simpa only [frameForStation_templates] using
      exec_answered hs (exec_tableReadTemplate ..) (doReadTemplate_some _ (finOf_eq ht) (finOf_eq hp))
  · subst hi
    exact exec_answered hs (exec_tableReadBanked ..) (doReadBanked_some _ (bankOf_letter i) (by rwa [frameForStation_tariff]))
  · exact exec_answered hs (exec_statusRead s) rfl

/-! ### The writes that are taken (R20, R140, R171) -/

@[simp] theorem clearDaily_settings (s : State) : (clearDaily s).settings = s.settings :=
  foldl_keeps (fun k t => t.setDaily k _) (fun t => t.settings) (fun _ _ => rfl) allKiosks s
@[simp] theorem judgeRoll_settings (s : State) : (judgeRoll s).settings = s.settings := by
  unfold judgeRoll; split <;> simp [dayRoll, clearOffline]

section
variable (s : State)

theorem doWriteLoop_taken {index rate edge : Byte} {l : LoopId} {r : LoopRate} {e : DoorEdge} (hl : loopIndexOf index = some l)
    (hr : loopRateOf rate = some r) (he : doorEdgeOf edge = some e) :
    doWriteLoop index rate edge s = (s.setLoop l { s.loop l with rate := r, edge := e }, { status := .ok, data := [] }) := by
  simp only [doWriteLoop, hl, hr, he, taken]

theorem doWriteCalib_taken {index : Byte} {u : CalibUnit} {k : Kiosk} {c1 c2 c3 : Calib} (hk : kioskOf index = some k)
    (h1 : calibOf u.offset1 u.gain1 = some c1) (h2 : calibOf u.offset2 u.gain2 = some c2)
    (h3 : calibOf u.offset3 u.gain3 = some c3) :
    doWriteCalib index u s =
      (s.updCoin k (fun c => { c with calib1 := c1, calib2 := c2, calib3 := c3 }), { status := .ok, data := [] }) := by
  simp only [doWriteCalib, hk, h1, h2, h3, taken]

theorem doWriteTemplate_taken {index place : Byte} {u : TemplateUnit} {i : Fin 16} {p : Fin 24} {r : Option LineRecord}
    (hlen : u.body.length = 32) (hi : finOf 16 index.toNat = some i) (hp : finOf 24 place.toNat = some p)
    (hu : templateOf u = some r) :
    doWriteTemplate index place u s =
      ({ s with templates := s.templates.set i ((s.templates[i]).set p r) }, { status := .ok, data := [] }) := by
  simp only [doWriteTemplate, sized, hlen, if_true, hi, hp, hu, taken]

/-- A write of any setting but the boundary replaces the settings alone (R181). -/
theorem doWriteSettings_taken {index : Byte} {value : Half} {x : Settings} (h0 : index.toNat ≠ 0) (h6 : index.toNat ≤ 6)
    (hx : settingOf s.settings index.toNat value.toNat = some x) :
    doWriteSettings index value s = ({ s with settings := x }, { status := .ok, data := [] }) := by
  simp only [doWriteSettings, if_neg (Nat.not_lt.mpr h6), hx, taken, h0, false_and, if_false]

/-- A write of the boundary judges the day roll where the clock is VALID (R171). -/
theorem doWriteSettings_boundary {value : Half} (h : value.toNat ≤ 1439) :
    doWriteSettings 0 value s =
      (let t : State := { s with settings := { s.settings with boundary := value.toNat } }
       if s.clock.state = .valid then judgeRoll t else t, { status := .ok, data := [] }) := by
  simp [doWriteSettings, settingOf, h, taken]

end

section
variable {s : State} (hs : s.hears)
include hs

theorem exec_tableWriteSettings_taken {index : Byte} {value : Half} {x : Settings} (h0 : index.toNat ≠ 0) (h6 : index.toNat ≤ 6)
    (hx : settingOf s.settings index.toNat value.toNat = some x) :
    exec (.tableWriteSettings index value) s =
      .next (({ frameForStation s with settings := x } : State).withReply 0x42 .ok []) :=
  exec_answered hs (exec_tableWriteSettings ..) (doWriteSettings_taken _ h0 h6 (by rwa [frameForStation_settings]))

/-- A boundary write that is taken leaves the new boundary, and the held day of a VALID clock judged by it (R171). -/
theorem exec_tableWriteSettings_boundary {value : Half} (h : value.toNat ≤ 1439) :
    ∃ t, exec (.tableWriteSettings 0 value) s = .next t ∧
      t.settings = { s.settings with boundary := value.toNat } ∧
      (s.clock.state = .valid → t.clock.heldDay = max s.clock.heldDay (serviceDay s.clock.dateTime value.toNat)) ∧
      (s.clock.state = .invalid → t.clock = s.clock) := by
  refine ⟨_, exec_answered hs (exec_tableWriteSettings ..) (doWriteSettings_boundary _ h), ?_⟩
  cases hc : s.clock.state <;> simp [hc, judgeRoll_clock, computedDay]

end

/-- Settles O59: each write is heard, its unit is in range, and its handler replaces the unit. -/
theorem unbankedWritesReplaceUnit : Obligations.UnbankedWritesReplaceUnit := by
  intro s hs v
  refine ⟨fun l r e index rate edge hl hr he => ?_, fun index k u hk ho1 ho2 ho3 hg1 hg2 hg3 => ?_,
    fun value => ⟨?_, ?_, ?_, ?_, ?_⟩, fun index place i p u r hi hp hlen hu => ?_⟩
  · simpa only [frameForStation_loop] using
      exec_answered hs (exec_tableWriteLoop ..) (doWriteLoop_taken _ (loopIndexOf_eq hl) (loopRateOf_eq hr) (doorEdgeOf_eq he))
  · exact exec_answered hs (exec_tableWriteCalib ..)
      (doWriteCalib_taken _ (kioskOf_eq hk) (calibOf_eq ho1 hg1) (calibOf_eq ho2 hg2) (calibOf_eq ho3 hg3))
  · exact fun hlo hhi => exec_tableWriteSettings_taken hs (by decide) (by decide) (by simp [settingOf, within, hlo, hhi])
  · exact fun hlo hhi => exec_tableWriteSettings_taken hs (by decide) (by decide) (by simp [settingOf, within, hlo, hhi])
  · exact fun hlo hhi => exec_tableWriteSettings_taken hs (by decide) (by decide) (by simp [settingOf, within, hlo, hhi])
  · exact fun p hp =>
      ⟨exec_tableWriteSettings_taken hs (by decide) (by decide) (by simp [settingOf, finOf_eq hp]),
        exec_tableWriteSettings_taken hs (by decide) (by decide) (by simp [settingOf, finOf_eq hp]),
        exec_tableWriteSettings_taken hs (by decide) (by decide) (by simp [settingOf, finOf_eq hp])⟩
  · exact exec_tableWriteSettings_boundary hs
  · simpa only [frameForStation_templates] using
      exec_answered hs (exec_tableWriteTemplate ..) (doWriteTemplate_taken _ hlen (finOf_eq hi) (finOf_eq hp) hu)

end Sys2Proof.Machine
end

section
/-! SUPPORT. Frames and payloads (chapter 12): those written out, the fields of a payload, and the requests read back by the units
of Table 12-7 and the rows of Tables 12-6 and 12-7. -/

namespace Sys2Proof

/-! ### Frames and payloads written out (R189, R191, R192) -/

/-- Settles O3: the layout holds of every frame by the two bytes of its check; the rest is written out. -/
theorem framesAndPayloadsWrittenOut : Obligations.FramesAndPayloadsWrittenOut := by
  refine ⟨⟨by decide +kernel, fun f => ?_⟩, by decide +kernel, by decide⟩
  simp [Frame.bytes, Frame.covered, halfBytes, beBytes_two]

/-! ### Fields at an offset (R190) -/

section
variable (a b c d : Byte) (p : List Byte) (i : Nat)

@[simp] theorem byteAt_cons_zero : byteAt (a :: p) 0 = a := rfl
@[simp] theorem byteAt_cons_succ : byteAt (a :: p) (i + 1) = byteAt p i := rfl
@[simp] theorem halfAt_cons_zero : halfAt (a :: b :: p) 0 = a ++ b := rfl
@[simp] theorem halfAt_cons_succ : halfAt (a :: p) (i + 1) = halfAt p i := rfl
@[simp] theorem tripleAt_cons_zero : tripleAt (a :: b :: c :: p) 0 = a ++ b ++ c := rfl
@[simp] theorem tripleAt_cons_succ : tripleAt (a :: p) (i + 1) = tripleAt p i := rfl
@[simp] theorem wordAt_cons_zero : wordAt (a :: b :: c :: d :: p) 0 = a ++ b ++ c ++ d := rfl
@[simp] theorem wordAt_cons_succ : wordAt (a :: p) (i + 1) = wordAt p i := rfl

@[simp] theorem halvesAt_cons_succ (n : Nat) : halvesAt (a :: p) (i + 1) n = halvesAt p i n := by
  induction n generalizing i with
  | zero => rfl
  | succ n ih => exact congrArg (List.cons _) (ih (i + 2))

@[simp] theorem slotsAt_cons_succ (n : Nat) : slotsAt (a :: p) (i + 1) n = slotsAt p i n := by
  induction n generalizing i with
  | zero => rfl
  | succ n ih => exact congrArg (List.cons _) (ih (i + 3))

end

theorem byteAt_append_right {l : List Byte} {i : Nat} (h : l.length ≤ i) (r : List Byte) :
    byteAt (l ++ r) i = byteAt r (i - l.length) :=
  List.getD_append_right _ _ _ _ h

/-! ### Fields written (R190) -/

theorem halfBytes_eq (x : Half) : halfBytes x = [BitVec.ofNat 8 (x.toNat / 256), BitVec.setWidth 8 x] := by
  simp [halfBytes, beBytes_two]
theorem tripleBytes_eq (x : Triple) :
    tripleBytes x = [BitVec.ofNat 8 (x.toNat / 65536), BitVec.ofNat 8 (x.toNat / 256), BitVec.setWidth 8 x] := by
  simp [tripleBytes, beBytes_three]
theorem wordBytes_eq (x : Word) :
    wordBytes x = [BitVec.ofNat 8 (x.toNat / 16777216), BitVec.ofNat 8 (x.toNat / 65536), BitVec.ofNat 8 (x.toNat / 256),
      BitVec.setWidth 8 x] := by
  simp [wordBytes, beBytes_four]

/-- A list of two-byte fields is read back field by field. -/
theorem halvesAt_halvesBytes {l : List Half} {n : Nat} (h : l.length = n) : halvesAt (halvesBytes l) 0 n = l := by
  subst h
  induction l with
  | nil => rfl
  | cons x l ih =>
    have hbytes : halvesBytes (x :: l) = BitVec.ofNat 8 (x.toNat / 256) :: BitVec.setWidth 8 x :: halvesBytes l := by
      simp [halvesBytes, halfBytes_eq]
    rw [List.length_cons, hbytes, halvesAt, halfAt_cons_zero, half_bytes_back, halvesAt_cons_succ, halvesAt_cons_succ, ih]

/-- The slots of a day plan are read back slot by slot. -/
theorem slotsAt_slotsBytes {l : List BandSlot} {n : Nat} (h : l.length = n) : slotsAt (l.flatMap BandSlot.bytes) 0 n = l := by
  subst h
  induction l with
  | nil => rfl
  | cons x l ih =>
    have hbytes : (x :: l).flatMap BandSlot.bytes =
        BitVec.ofNat 8 (x.start.toNat / 256) :: BitVec.setWidth 8 x.start :: x.cls :: l.flatMap BandSlot.bytes := by
      simp [BandSlot.bytes, halfBytes_eq]
    rw [List.length_cons, hbytes, slotsAt, halfAt_cons_zero, half_bytes_back, slotsAt_cons_succ, slotsAt_cons_succ,
      slotsAt_cons_succ, ih]
    rfl

theorem length_halvesBytes (l : List Half) : (halvesBytes l).length = 2 * l.length := by
  simp [halvesBytes, halfBytes_eq, mul_comm]
theorem length_slotsBytes (l : List BandSlot) : (l.flatMap BandSlot.bytes).length = 3 * l.length := by
  simp [BandSlot.bytes, halfBytes_eq, mul_comm]

/-! ### TABLE-WRITE (Tables 12-6 and 12-7) -/

/-- A payload of the length of its kind is read as the row that it spells (R192). -/
theorem decodeRequest_of_row {kind : Byte} {p : List Byte} {i : Instr} (hlen : requestLength kind p = some p.length)
    (hrow : rowOf kind p = some i) : decodeRequest kind p = i := by
  rw [decodeRequest, parseRequest, if_pos hlen, hrow]
  rfl

/-- A TABLE-WRITE is read by its table code from a unit of that table's length. -/
theorem decodeRequest_writeBytes {code : Nat} {bank index sub : Byte} {unit : List Byte} {i : Instr}
    (hlen : unitLength (BitVec.ofNat 8 code).toNat = some unit.length)
    (hrow : writeOf (writeBytes code bank index sub unit).2 = some i) :
    decodeRequest (writeBytes code bank index sub unit).1 (writeBytes code bank index sub unit).2 = i := by
  refine decodeRequest_of_row ?_ hrow
  simp [requestLength, writeBytes, -BitVec.toNat_ofNat, hlen, Nat.add_comm 4]

/-! ### The units read back (Table 12-7) -/

section
variable (bank index sub : Byte)

theorem decodeRequest_writeCalib (u : CalibUnit) :
    decodeRequest 0x42 (writeBytes 2 0 index 0 u.bytes).2 = .tableWriteCalib index u :=
  decodeRequest_writeBytes (by simp [CalibUnit.bytes, halfBytes_eq, unitLength])
    (by simp [writeOf, writeBytes, CalibUnit.bytes, halfBytes_eq])

theorem decodeRequest_writeCoin (u : CoinUnit) :
    decodeRequest 0x42 (writeBytes 3 0 index 0 u.bytes).2 = .tableWriteCoin index u :=
  decodeRequest_writeBytes (by simp [CoinUnit.bytes, halfBytes_eq, unitLength])
    (by simp [writeOf, writeBytes, CoinUnit.bytes, halfBytes_eq])

theorem decodeRequest_writeSettings (x : Half) :
    decodeRequest 0x42 (writeBytes 5 0 index 0 (halfBytes x)).2 = .tableWriteSettings index x :=
  decodeRequest_writeBytes (by simp [halfBytes_eq, unitLength]) (by simp [writeOf, writeBytes, halfBytes_eq])

theorem decodeRequest_writeTemplate {u : TemplateUnit} (h : u.body.length = 32) :
    decodeRequest 0x42 (writeBytes 6 0 index sub u.bytes).2 = .tableWriteTemplate index sub u :=
  decodeRequest_writeBytes (by simp [TemplateUnit.bytes, unitLength, h]) (by simp [writeOf, writeBytes, TemplateUnit.bytes])

theorem decodeRequest_writeHeader {u : HeaderUnit} (h : u.denominations.length = 8) :
    decodeRequest 0x42 (writeBytes 7 bank 0 0 u.bytes).2 = .tableWriteHeader bank u :=
  decodeRequest_writeBytes (by simp [HeaderUnit.bytes, halfBytes_eq, tripleBytes_eq, length_halvesBytes, unitLength, h])
    (by simp [writeOf, writeBytes, HeaderUnit.bytes, halfBytes_eq, tripleBytes_eq, halvesAt_halvesBytes h])

theorem decodeRequest_writeProduct {u : ProductUnit} (h : u.name.length = 20) :
    decodeRequest 0x42 (writeBytes 8 bank index 0 u.bytes).2 = .tableWriteProduct bank index u :=
  decodeRequest_writeBytes (by simp [ProductUnit.bytes, halfBytes_eq, unitLength, h])
    (by simp [writeOf, writeBytes, ProductUnit.bytes, halfBytes_eq, byteAt_append_right, List.take_left' h, h])

theorem decodeRequest_writeFare {cells : List Half} (h : cells.length = 8) :
    decodeRequest 0x42 (writeBytes 9 bank index 0 (halvesBytes cells)).2 = .tableWriteFare bank index cells :=
  decodeRequest_writeBytes (by simp [length_halvesBytes, unitLength, h]) (by simp [writeOf, writeBytes, halvesAt_halvesBytes h])

theorem decodeRequest_writeBand {factors : List Half} (h : factors.length = 4) :
    decodeRequest 0x42 (writeBytes 10 bank index 0 (halvesBytes factors)).2 = .tableWriteBand bank index factors :=
  decodeRequest_writeBytes (by simp [length_halvesBytes, unitLength, h]) (by simp [writeOf, writeBytes, halvesAt_halvesBytes h])

theorem decodeRequest_writeDayplan {u : DayplanUnit} (h : u.slots.length = 6) :
    decodeRequest 0x42 (writeBytes 11 bank index 0 u.bytes).2 = .tableWriteDayplan bank index u :=
  decodeRequest_writeBytes (by simp [DayplanUnit.bytes, -List.length_flatMap, length_slotsBytes, unitLength, h])
    (by simp [writeOf, writeBytes, DayplanUnit.bytes, slotsAt_slotsBytes h])

theorem decodeRequest_writeClass {percents : List Byte} (h : percents.length = 4) :
    decodeRequest 0x42 (writeBytes 12 bank index 0 percents).2 = .tableWriteClass bank index percents :=
  decodeRequest_writeBytes (by simp [unitLength, h]) (by simp [writeOf, writeBytes])

theorem decodeRequest_writeHoliday (u : HolidayUnit) :
    decodeRequest 0x42 (writeBytes 13 bank index 0 u.bytes).2 = .tableWriteHoliday bank index u :=
  decodeRequest_writeBytes (by simp [HolidayUnit.bytes, halfBytes_eq, unitLength])
    (by simp [writeOf, writeBytes, HolidayUnit.bytes, halfBytes_eq])

end

/-! ### The rows (Tables 12-6 and 12-7) -/

/-- A request that spells no row is read as BAD_KIND with the raw frame. -/
theorem decodeRequest_badKind {kind : Byte} {p : List Byte} (h : (parseRequest kind p).isNone = true) :
    decodeRequest kind p = .badKind kind p := by
  rw [decodeRequest, Option.isNone_iff_eq_none.mp h]
  rfl

theorem wellFormed_of_canonical {i : Instr} (h : i.canonical = true) : i.wellFormed = true := (Bool.and_eq_true_iff.mp h).1

/-- Every request is read back from its kind and payload: the fixed rows by their layout, the others by their fields. -/
theorem decodeRequest_encodeRequest {i : Instr} {e : Byte × List Byte} (hc : i.canonical = true) (he : encodeRequest i = some e) :
    decodeRequest e.1 e.2 = i := by
  have hw := wellFormed_of_canonical hc
  cases i <;> cases he
  case badKind => exact decodeRequest_badKind (Bool.and_eq_true_iff.mp hc).2
  case tableWriteLoop | tableWriteKiosk | tableWriteTube => exact decodeRequest_writeBytes rfl rfl
  case tableWriteCalib i u => exact decodeRequest_writeCalib i u
  case tableWriteCoin i u => exact decodeRequest_writeCoin i u
  case tableWriteSettings i x => exact decodeRequest_writeSettings i x
  case tableWriteTemplate i p u => exact decodeRequest_writeTemplate i p (of_decide_eq_true hw)
  case tableWriteHeader b u => exact decodeRequest_writeHeader b (of_decide_eq_true hw)
  case tableWriteProduct b i u => exact decodeRequest_writeProduct b i (of_decide_eq_true hw)
  case tableWriteFare b i l => exact decodeRequest_writeFare b i (of_decide_eq_true hw)
  case tableWriteBand b i l => exact decodeRequest_writeBand b i (of_decide_eq_true hw)
  case tableWriteDayplan b i u => exact decodeRequest_writeDayplan b i (of_decide_eq_true hw)
  case tableWriteClass b i l => exact decodeRequest_writeClass b i (of_decide_eq_true hw)
  case tableWriteHoliday b i u => exact decodeRequest_writeHoliday b i u
  case tableReadBanked t b i => cases t <;> rfl
  case stoplistAdd | stoplistRemove | eventsClear | eventsMask =>
    rw [wordBytes_eq]
    exact decodeRequest_of_row rfl (by simp [rowOf])
  case authAnswer k s a d =>
    rw [halfBytes_eq]
    exact decodeRequest_of_row rfl (by simp [rowOf])
  case floatSet =>
    rw [tripleBytes_eq]
    exact decodeRequest_of_row rfl (by simp [rowOf])
  all_goals rfl

/-- Settles O4: each row is read back by its own layout. -/
theorem requestsRoundTrip : Obligations.RequestsRoundTrip := fun _ _ _ hc he => decodeRequest_encodeRequest hc he

end Sys2Proof
end

section
/-! SUPPORT. Replies read back (Table 12-4): the enumerated fields, the counts, the card image, and the rows of a kiosk's reply. -/

namespace Sys2Proof

/-! ### Reading a reply (R191) -/

/-- A payload that spells a well-formed reply is read as it. -/
theorem decodeReply_of_layout {l : LoopId} {a : Bool} {kind : Byte} {p : List Byte} {i : Instr} (hw : i.wellFormed = true)
    (h : layoutReply l a kind p = some i) : decodeReply l a kind p = i := by
  simp [decodeReply, parseReply, h, hw]

/-- A payload that spells no well-formed reply is read as MALFORMED_REPLY. -/
theorem decodeReply_malformed {l : LoopId} {a : Bool} {kind : Byte} {p : List Byte} (h : (parseReply l a kind p).isNone = true) :
    decodeReply l a kind p = .malformedReply l a kind p := by
  rw [decodeReply, Option.isNone_iff_eq_none.mp h]
  rfl

/-! ### Enumerated fields (R190) -/

@[simp] theorem doorOf_code (d : DoorIn) : doorOf (BitVec.ofNat 8 d.code) = some d := by cases d <;> rfl
@[simp] theorem cashboxOf_code (c : CashboxIn) : cashboxOf (BitVec.ofNat 8 c.code) = some c := by cases c <;> rfl
@[simp] theorem paperOf_code (p : PaperIn) : paperOf (BitVec.ofNat 8 p.code) = some p := by cases p <;> rfl
@[simp] theorem serviceOf_code (s : ServiceIn) : serviceOf (BitVec.ofNat 8 s.code) = some s := by cases s <;> rfl
@[simp] theorem cardOutcomeOf_code (r : CardOutcome) : cardOutcomeOf (BitVec.ofNat 8 r.code) = some r := by cases r <;> rfl
@[simp] theorem classOf_code (c : RiderClass) : classOf c.code = some c := by cases c <;> rfl
@[simp] theorem carrierOf_code (c : Carrier) : carrierOf c.code = some c := by cases c <;> rfl
theorem RiderClass.code_le (c : RiderClass) : c.code ≤ 3 := by cases c <;> decide
theorem Carrier.code_le (c : Carrier) : c.code ≤ 1 := by cases c <;> decide

/-! ### Numbers (R190) -/

theorem byte_toNat {n : Nat} (h : n ≤ 255) : (BitVec.ofNat 8 n).toNat = n :=
  (BitVec.toNat_ofNat ..).trans (Nat.mod_eq_of_lt (Nat.lt_succ_of_le h))

/-! ### The rows with fields (Table 12-4) -/

section
variable (l : LoopId) (a : Bool)

theorem decodeReply_status (d : DoorIn) (c : CashboxIn) (p : PaperIn) (s : ServiceIn) :
    decodeReply l a 0x21 (beBytes 1 d.code ++ beBytes 1 c.code ++ beBytes 1 p.code ++ beBytes 1 s.code) = .status l a d c p s :=
  decodeReply_of_layout rfl (by simp [layoutReply, beBytes_one])

/-- A select record is read by its item from its two-byte value. -/
theorem layoutReply_select (item : Byte) {value : Nat} (h : value ≤ 65535) :
    layoutReply l a 0x22 (0 :: item :: beBytes 2 value) = (selectOf item value).map (.keySelect l a) := by
  simp [layoutReply, beBytes_two, -BitVec.toNat_append, half_of_bytes h]

theorem decodeReply_coin {r1 r2 r3 : Nat} (hw : (Instr.coin l a r1 r2 r3).wellFormed = true) :
    decodeReply l a 0x23 (beBytes 2 r1 ++ beBytes 2 r2 ++ beBytes 2 r3) = .coin l a r1 r2 r3 := by
  obtain ⟨h1, h2, h3⟩ : r1 ≤ 1023 ∧ r2 ≤ 1023 ∧ r3 ≤ 1023 := of_decide_eq_true hw
  have hr1 := half_of_bytes (n := r1) (by omega)
  have hr2 := half_of_bytes (n := r2) (by omega)
  have hr3 := half_of_bytes (n := r3) (by omega)
  exact decodeReply_of_layout hw (by simp [layoutReply, beBytes_two, -BitVec.toNat_append, hr1, hr2, hr3])

theorem decodeReply_cardResult {r : CardOutcome} {card counter : Nat}
    (hw : (Instr.cardResult l a r card counter).wellFormed = true) :
    decodeReply l a 0x26 (beBytes 1 r.code ++ beBytes 4 card ++ beBytes 2 counter) = .cardResult l a r card counter := by
  obtain ⟨hcard, hcounter⟩ : card ≤ 4294967295 ∧ counter ≤ 65535 := of_decide_eq_true hw
  have hc := word_of_bytes (n := card) (by omega)
  have hn := half_of_bytes hcounter
  exact decodeReply_of_layout hw
    (by simp [layoutReply, beBytes_one, beBytes_two, beBytes_four, -BitVec.toNat_append, hc, hn])

theorem decodeReply_printRdy {slots : Nat} (hw : (Instr.printRdy l a slots).wellFormed = true) :
    decodeReply l a 0x28 (beBytes 1 slots) = .printRdy l a slots := by
  have h : 1 ≤ slots ∧ slots ≤ 8 := of_decide_eq_true hw
  have hs := byte_toNat (n := slots) (by omega)
  exact decodeReply_of_layout hw (by simp [layoutReply, beBytes_one, -BitVec.toNat_ofNat, hs])

theorem decodeReply_keySelect {item : SelectItem} (hw : (Instr.keySelect l a item).wellFormed = true) {e : Byte × List Byte}
    (he : encodeReply (.keySelect l a item) = some e) : decodeReply l a e.1 e.2 = .keySelect l a item := by
  refine decodeReply_of_layout hw ?_
  cases item <;> cases he
  case product n =>
    have h : 1 ≤ n ∧ n ≤ 9999 := of_decide_eq_true hw
    exact layoutReply_select l a 0 (by omega)
  case topup n =>
    have h : n ≤ 50000 := of_decide_eq_true hw
    exact layoutReply_select l a 1 (by omega)
  case zones n => exact layoutReply_select l a 2 (of_decide_eq_true hw)
  case riderClass c => cases c <;> rfl
  case quantity n => exact layoutReply_select l a 4 (of_decide_eq_true hw)
  case carrier c => cases c <;> rfl

theorem decodeReply_landed (d : Dest) {e : Byte × List Byte} (he : encodeReply (.landed l a d) = some e) :
    decodeReply l a e.1 e.2 = .landed l a d := by
  refine decodeReply_of_layout rfl ?_
  cases d <;> cases he
  case tube t => fin_cases t <;> rfl
  all_goals rfl

end

/-! ### Counts (PAYREPORT, FILL) -/

/-- Six counts in their ranges are read back. -/
theorem sixCounts_bytes {counts : Vector Nat 6} (h : countsWellFormed counts = true) :
    sixCounts (counts.toList.flatMap (beBytes 1)) = counts := by
  have hcount : ∀ n : TubeNo, (BitVec.ofNat 8 counts[n]).toNat = counts[n] := fun n => by
    have := of_decide_eq_true (List.all_eq_true.mp h counts[n] (Vector.mem_toList_iff.mpr (Vector.getElem_mem n.isLt)))
    exact byte_toNat (by omega)
  rw [Machine.flatMap_tubes]
  simp only [beBytes_one, List.cons_append, List.nil_append, sixCounts, byteAt_cons_zero, byteAt_cons_succ, hcount]
  ext i hi
  interval_cases i <;> rfl

theorem length_countBytes (counts : Vector Nat 6) : (counts.toList.flatMap (beBytes 1)).length = 6 := by
  simp [Machine.flatMap_tubes, beBytes_one]

/-! ### The card image (Table 7-1) -/

/-- The bounds of a card image in the ranges of Tables 7-1 and 12-4. -/
theorem CardImage.bounds_of_wellFormed {c : CardImage} (h : c.wellFormed = true) :
    c.number ≤ 4294967295 ∧ c.balance ≤ 99999 ∧ c.counter ≤ 65535 ∧ ∀ p, c.pass = some p → p.wellFormed = true := by
  obtain ⟨hc, hp⟩ := Bool.and_eq_true_iff.mp h
  obtain ⟨-, hnumber, hbalance, hcounter⟩ : 1 ≤ c.number ∧ c.number ≤ 4294967295 ∧ c.balance ≤ 99999 ∧ c.counter ≤ 65535 :=
    of_decide_eq_true hc
  refine ⟨hnumber, hbalance, hcounter, fun p hpass => ?_⟩
  rwa [hpass] at hp

/-- A card image in its ranges is read back, with and without a pass. -/
theorem imageOf_encoded {c : CardImage} (hw : c.wellFormed = true) {l : LoopId} {a : Bool} {e : Byte × List Byte}
    (he : encodeReply (.cardImage l a c) = some e) : imageOf e.2 = some c := by
  obtain ⟨number, cls, balance, counter, pass⟩ := c
  obtain ⟨hnumber, hbalance, hcounter, hpass⟩ := CardImage.bounds_of_wellFormed hw
  have hn := word_of_bytes (n := number) (Nat.lt_succ_of_le hnumber)
  have hb := triple_of_bytes (n := balance) (hbalance.trans_lt (by decide))
  have hc := half_of_bytes (n := counter) hcounter
  have hcls := byte_toNat (n := cls.code) (cls.code_le.trans (by decide))
  cases pass with
  | none =>
    cases he
    simp [imageOf, beBytes_one, beBytes_two, beBytes_three, beBytes_four, -BitVec.toNat_append, -BitVec.toNat_ofNat, hn, hb, hc,
      hcls]
  | some p =>
    cases he
    obtain ⟨-, hproduct, -, hzones, hfrom, huntil⟩ :
        1 ≤ p.product ∧ p.product ≤ 9999 ∧ 1 ≤ p.zones ∧ p.zones ≤ 8 ∧ p.validFrom ≤ p.validUntil ∧ p.validUntil ≤ 36524 :=
      of_decide_eq_true (hpass p rfl)
    have hp := half_of_bytes (n := p.product) (by omega)
    have hz := byte_toNat (n := p.zones) (by omega)
    have hf := half_of_bytes (n := p.validFrom) (by omega)
    have hu := half_of_bytes (n := p.validUntil) (by omega)
    simp [imageOf, beBytes_one, beBytes_two, beBytes_three, beBytes_four, -BitVec.toNat_append, -BitVec.toNat_ofNat, hn, hb, hc,
      hcls, hp, hz, hf, hu]

/-! ### The rows (Table 12-4) -/

/-- Every reply is read back from its kind and payload in its own exchange. -/
theorem decodeReply_encodeReply {i : Instr} {l : LoopId} {a : Bool} {e : Byte × List Byte} (hc : i.canonical = true)
    (hl : i.replyLine = some (l, a)) (he : encodeReply i = some e) : decodeReply l a e.1 e.2 = i := by
  have hw := wellFormed_of_canonical hc
  cases i <;> cases hl
  case malformedReply =>
    cases he
    exact decodeReply_malformed (Bool.and_eq_true_iff.mp hc).2
  case keySelect => exact decodeReply_keySelect l a hw he
  case landed d => exact decodeReply_landed l a d he
  case cardImage c =>
    have himage := imageOf_encoded hw he
    cases he
    exact decodeReply_of_layout hw (congrArg (Option.map (Instr.cardImage l a)) himage)
  all_goals cases he
  case status d c p s => exact decodeReply_status l a d c p s
  case coin => exact decodeReply_coin l a hw
  case cardResult => exact decodeReply_cardResult l a hw
  case printRdy => exact decodeReply_printRdy l a hw
  case payReport counts =>
    exact decodeReply_of_layout hw
      ((if_pos (length_countBytes counts)).trans (congrArg (fun n => some (Instr.payReport l a n)) (sixCounts_bytes hw)))
  case fill counts =>
    exact decodeReply_of_layout hw
      ((if_pos (length_countBytes counts)).trans (congrArg (fun n => some (Instr.fill l a n)) (sixCounts_bytes hw)))
  all_goals rfl

/-- Settles O5: each row is read back by its own layout. -/
theorem repliesRoundTrip : Obligations.RepliesRoundTrip := fun _ _ _ _ _ hc hl he => decodeReply_encodeReply hc hl he

end Sys2Proof
end
